-- ==== Sys2Proof/Config.lean ====
section
/-! DEFINITION. What an instance of the block fixes (R4, R20). -/

namespace Sys2Proof

/-- The payload capacity `N` of the instance that reset leaves: OPEN in the spec (R4, D13), so it has no body and no
claim can know it. DESIGN CHOICE: log 2, safe. -/
opaque Config.capacity : Nat

end Sys2Proof
end

