-- ==== Sys2Proof/Word.lean ====
section
/-! DEFINITION. The value types of spec/10_state.md R16 that are plain unsigned bit vectors (R5, R6). -/

namespace Sys2Proof

/-- Eight bits; bit 7 is the most significant (R5). -/
abbrev Byte := BitVec 8

/-- The untyped 8-bit input of the operations that build a tag from a number (R16, `RAW_W` of R4). -/
abbrev RawByte := Byte

/-- The command ID: 8 bits, all 256 values legal (R16, R56). -/
abbrev CommandId := Byte

/-- The low byte of a header word, holding type and subsystem (R16, R51). -/
abbrev FirstByte := Byte

/-- The length input of a Frame: all 256 values can be presented (R16, `LEN_W` of R4). -/
abbrev Length := Byte

/-- An untyped 16-bit word as received (R16, `WORD_W` of R4). -/
abbrev HeaderWord := BitVec 16

/-- A packed header; every 16-bit pattern is one (R17), so it is the header word itself (R119). -/
abbrev CommandHeader := HeaderWord

/-- The 2-bit status output (R13, R16). -/
abbrev Status := BitVec 2

end Sys2Proof
end

