-- ==== Sys2Proof/Syntax.lean ====
section
/-! DEFINITION. The tags of the closed enumerations, the error kinds, and `Instr`: one constructor per row of
spec/opcode_table.json. -/

namespace Sys2Proof

/-- CommandType: the 8 tags of R54 and no other (R85); a reserved tag is an ordinary member (R57). -/
inductive CommandType where
  | poll
  | syncRequest
  | asyncRequest
  | syncResponse
  | reserved4
  | reserved5
  | reserved6
  | reserved7
deriving DecidableEq, Repr

/-- Subsystem: the 32 tags of R55 and no other (R85); every reserved position is a tag of its own. -/
inductive Subsystem where
  | rpcError
  | sys
  | reserved2
  | reserved3
  | af
  | zdo
  | simpleApi
  | util
  | reserved8
  | app
  | reserved10
  | reserved11
  | reserved12
  | reserved13
  | reserved14
  | reserved15
  | reserved16
  | reserved17
  | reserved18
  | reserved19
  | reserved20
  | reserved21
  | reserved22
  | reserved23
  | reserved24
  | reserved25
  | reserved26
  | reserved27
  | reserved28
  | reserved29
  | reserved30
  | reserved31
deriving DecidableEq, Repr

/-- SRSPErrorCode: the 5 tags of R58; bytes 5 to 255 have none. -/
inductive SRSPErrorCode where
  | ok
  | invalidSubsystem
  | invalidCommandId
  | invalidParameter
  | invalidLength
deriving DecidableEq, Repr

/-- The three error kinds an operation can return (R165, R169); an error records its kind and nothing else (R170). -/
inductive ErrorKind where
  /-- NumericConversionError (R166): only `narrow` raises it, and on the 16-bit port never (R131). -/
  | numericConversion
  /-- OutOfRangeConstruction (R167): `CT_FROM_RAW`, `SS_FROM_RAW`, `FRAME_NEW`. -/
  | outOfRangeConstruction
  /-- DecodeError (R168): `SRSP_FROM_RAW` on a byte that has no tag. -/
  | decodeError
deriving DecidableEq, Repr

/-- The names of the 16 operations in the order of their numbers (R60). -/
inductive Operation where
  | ctRaw
  | ctFromRaw
  | ssRaw
  | ssFromRaw
  | pbfGetType
  | pbfGetSubsys
  | pbfGetId
  | encodeHeader
  | viewFirstByte
  | viewType
  | viewSubsys
  | viewCmdId
  | decodeHeader
  | frameNew
  | srspRaw
  | srspFromRaw
deriving DecidableEq, Repr

/-- One constructor per row of spec/opcode_table.json. An operation carries the values presented on its inputs (R18).
A value row of the header word carries the fields the row leaves open (`i`, `s` or `t` in its pattern, R54, R55); a row of
the SRSP table is one whole byte (R58). -/
inductive Instr where
  /-- `CT_RAW`, R80. -/
  | ctRaw (t : CommandType)
  /-- `CT_FROM_RAW`, R81. -/
  | ctFromRaw (n : RawByte)
  /-- `SS_RAW`, R82. -/
  | ssRaw (s : Subsystem)
  /-- `SS_FROM_RAW`, R83. -/
  | ssFromRaw (n : RawByte)
  /-- `PBF_GET_TYPE`, R103. -/
  | pbfGetType (h : CommandHeader)
  /-- `PBF_GET_SUBSYS`, R104. -/
  | pbfGetSubsys (h : CommandHeader)
  /-- `PBF_GET_ID`, R105. -/
  | pbfGetId (h : CommandHeader)
  /-- `ENCODE_HEADER`, R115. -/
  | encodeHeader (t : CommandType) (s : Subsystem) (id : CommandId)
  /-- `VIEW_FIRST_BYTE`, R126. -/
  | viewFirstByte (w : HeaderWord)
  /-- `VIEW_TYPE`, R127. -/
  | viewType (w : HeaderWord)
  /-- `VIEW_SUBSYS`, R128. -/
  | viewSubsys (w : HeaderWord)
  /-- `VIEW_CMD_ID`, R129. -/
  | viewCmdId (w : HeaderWord)
  /-- `DECODE_HEADER`, R130. -/
  | decodeHeader (w : HeaderWord)
  /-- `FRAME_NEW`, R145. -/
  | frameNew (length : Length) (h : CommandHeader) (payload : List Byte)
  /-- `SRSP_RAW`, R149. -/
  | srspRaw (e : SRSPErrorCode)
  /-- `SRSP_FROM_RAW`, R150. -/
  | srspFromRaw (b : RawByte)
  /-- A header word whose type field is 0, `Poll` (R54). -/
  | poll (id : CommandId) (s : Subsystem)
  /-- A header word whose type field is 1, `SyncRequest` (R54). -/
  | syncRequest (id : CommandId) (s : Subsystem)
  /-- A header word whose type field is 2, `AsyncRequest` (R54). -/
  | asyncRequest (id : CommandId) (s : Subsystem)
  /-- A header word whose type field is 3, `SyncResponse` (R54). -/
  | syncResponse (id : CommandId) (s : Subsystem)
  /-- A header word whose type field is 4, `Reserved4` (R54). -/
  | reserved4 (id : CommandId) (s : Subsystem)
  /-- A header word whose type field is 5, `Reserved5` (R54). -/
  | reserved5 (id : CommandId) (s : Subsystem)
  /-- A header word whose type field is 6, `Reserved6` (R54). -/
  | reserved6 (id : CommandId) (s : Subsystem)
  /-- A header word whose type field is 7, `Reserved7` (R54). -/
  | reserved7 (id : CommandId) (s : Subsystem)
  /-- A header word whose subsystem field is 0, `RPCError` (R55). -/
  | rpcError (id : CommandId) (t : CommandType)
  /-- A header word whose subsystem field is 1, `SYS` (R55). -/
  | sys (id : CommandId) (t : CommandType)
  /-- A header word whose subsystem field is 2, `Reserved2` (R55). -/
  | reserved2 (id : CommandId) (t : CommandType)
  /-- A header word whose subsystem field is 3, `Reserved3` (R55). -/
  | reserved3 (id : CommandId) (t : CommandType)
  /-- A header word whose subsystem field is 4, `AF` (R55). -/
  | af (id : CommandId) (t : CommandType)
  /-- A header word whose subsystem field is 5, `ZDO` (R55). -/
  | zdo (id : CommandId) (t : CommandType)
  /-- A header word whose subsystem field is 6, `SimpleAPI` (R55). -/
  | simpleApi (id : CommandId) (t : CommandType)
  /-- A header word whose subsystem field is 7, `UTIL` (R55). -/
  | util (id : CommandId) (t : CommandType)
  /-- A header word whose subsystem field is 8, `Reserved8` (R55). -/
  | reserved8 (id : CommandId) (t : CommandType)
  /-- A header word whose subsystem field is 9, `APP` (R55). -/
  | app (id : CommandId) (t : CommandType)
  /-- A header word whose subsystem field is 10, `Reserved10` (R55). -/
  | reserved10 (id : CommandId) (t : CommandType)
  /-- A header word whose subsystem field is 11, `Reserved11` (R55). -/
  | reserved11 (id : CommandId) (t : CommandType)
  /-- A header word whose subsystem field is 12, `Reserved12` (R55). -/
  | reserved12 (id : CommandId) (t : CommandType)
  /-- A header word whose subsystem field is 13, `Reserved13` (R55). -/
  | reserved13 (id : CommandId) (t : CommandType)
  /-- A header word whose subsystem field is 14, `Reserved14` (R55). -/
  | reserved14 (id : CommandId) (t : CommandType)
  /-- A header word whose subsystem field is 15, `Reserved15` (R55). -/
  | reserved15 (id : CommandId) (t : CommandType)
  /-- A header word whose subsystem field is 16, `Reserved16` (R55). -/
  | reserved16 (id : CommandId) (t : CommandType)
  /-- A header word whose subsystem field is 17, `Reserved17` (R55). -/
  | reserved17 (id : CommandId) (t : CommandType)
  /-- A header word whose subsystem field is 18, `Reserved18` (R55). -/
  | reserved18 (id : CommandId) (t : CommandType)
  /-- A header word whose subsystem field is 19, `Reserved19` (R55). -/
  | reserved19 (id : CommandId) (t : CommandType)
  /-- A header word whose subsystem field is 20, `Reserved20` (R55). -/
  | reserved20 (id : CommandId) (t : CommandType)
  /-- A header word whose subsystem field is 21, `Reserved21` (R55). -/
  | reserved21 (id : CommandId) (t : CommandType)
  /-- A header word whose subsystem field is 22, `Reserved22` (R55). -/
  | reserved22 (id : CommandId) (t : CommandType)
  /-- A header word whose subsystem field is 23, `Reserved23` (R55). -/
  | reserved23 (id : CommandId) (t : CommandType)
  /-- A header word whose subsystem field is 24, `Reserved24` (R55). -/
  | reserved24 (id : CommandId) (t : CommandType)
  /-- A header word whose subsystem field is 25, `Reserved25` (R55). -/
  | reserved25 (id : CommandId) (t : CommandType)
  /-- A header word whose subsystem field is 26, `Reserved26` (R55). -/
  | reserved26 (id : CommandId) (t : CommandType)
  /-- A header word whose subsystem field is 27, `Reserved27` (R55). -/
  | reserved27 (id : CommandId) (t : CommandType)
  /-- A header word whose subsystem field is 28, `Reserved28` (R55). -/
  | reserved28 (id : CommandId) (t : CommandType)
  /-- A header word whose subsystem field is 29, `Reserved29` (R55). -/
  | reserved29 (id : CommandId) (t : CommandType)
  /-- A header word whose subsystem field is 30, `Reserved30` (R55). -/
  | reserved30 (id : CommandId) (t : CommandType)
  /-- A header word whose subsystem field is 31, `Reserved31` (R55). -/
  | reserved31 (id : CommandId) (t : CommandType)
  /-- The SRSP byte 0, `Ok` (R58). -/
  | ok
  /-- The SRSP byte 1, `InvalidSubsystem` (R58). -/
  | invalidSubsystem
  /-- The SRSP byte 2, `InvalidCommandID` (R58). -/
  | invalidCommandId
  /-- The SRSP byte 3, `InvalidParameter` (R58). -/
  | invalidParameter
  /-- The SRSP byte 4, `InvalidLength` (R58). -/
  | invalidLength
deriving DecidableEq, Repr

end Sys2Proof
end

