-- ==== Sys2Proof/Machine/Operands.lean ====
section
/-! DEFINITION. The raw value tables (R54, R55, R58, R60), the primitives `extract`, `place` and `narrow` (R101, R102,
R125), the packed word (R50, R52) and the two byte order helpers (R31). -/

namespace Sys2Proof

/-- `ct_raw`: the raw column of R54 (R80). -/
def CommandType.raw : CommandType → BitVec 3
  | .poll => 0
  | .syncRequest => 1
  | .asyncRequest => 2
  | .syncResponse => 3
  | .reserved4 => 4
  | .reserved5 => 5
  | .reserved6 => 6
  | .reserved7 => 7

/-- The tags of R54 in the order of their raw values. -/
def CommandType.table : Vector CommandType 8 :=
  #v[.poll, .syncRequest, .asyncRequest, .syncResponse, .reserved4, .reserved5, .reserved6, .reserved7]

/-- `ct_from_raw` on its domain 0 to 7: the tag of R54 whose raw column is `n` (R81). -/
def CommandType.ofRaw (n : BitVec 3) : CommandType := CommandType.table[n.toNat]'n.isLt

/-- `ss_raw`: the raw column of R55 (R82). -/
def Subsystem.raw : Subsystem → BitVec 5
  | .rpcError => 0
  | .sys => 1
  | .reserved2 => 2
  | .reserved3 => 3
  | .af => 4
  | .zdo => 5
  | .simpleApi => 6
  | .util => 7
  | .reserved8 => 8
  | .app => 9
  | .reserved10 => 10
  | .reserved11 => 11
  | .reserved12 => 12
  | .reserved13 => 13
  | .reserved14 => 14
  | .reserved15 => 15
  | .reserved16 => 16
  | .reserved17 => 17
  | .reserved18 => 18
  | .reserved19 => 19
  | .reserved20 => 20
  | .reserved21 => 21
  | .reserved22 => 22
  | .reserved23 => 23
  | .reserved24 => 24
  | .reserved25 => 25
  | .reserved26 => 26
  | .reserved27 => 27
  | .reserved28 => 28
  | .reserved29 => 29
  | .reserved30 => 30
  | .reserved31 => 31

/-- The tags of R55 in the order of their raw values. -/
def Subsystem.table : Vector Subsystem 32 :=
  #v[.rpcError, .sys, .reserved2, .reserved3, .af, .zdo, .simpleApi, .util,
     .reserved8, .app, .reserved10, .reserved11, .reserved12, .reserved13, .reserved14, .reserved15,
     .reserved16, .reserved17, .reserved18, .reserved19, .reserved20, .reserved21, .reserved22, .reserved23,
     .reserved24, .reserved25, .reserved26, .reserved27, .reserved28, .reserved29, .reserved30, .reserved31]

/-- `ss_from_raw` on its domain 0 to 31: the tag of R55 whose raw column is `n` (R83). -/
def Subsystem.ofRaw (n : BitVec 5) : Subsystem := Subsystem.table[n.toNat]'n.isLt

/-- `srsp_raw`: the byte column of R58 (R149). -/
def SRSPErrorCode.raw : SRSPErrorCode → Byte
  | .ok => 0
  | .invalidSubsystem => 1
  | .invalidCommandId => 2
  | .invalidParameter => 3
  | .invalidLength => 4

/-- The tag of R58 whose byte column is `n`, on the five bytes that have one (R150). -/
def SRSPErrorCode.ofRaw : Fin 5 → SRSPErrorCode
  | 0 => .ok
  | 1 => .invalidSubsystem
  | 2 => .invalidCommandId
  | 3 => .invalidParameter
  | 4 => .invalidLength

/-- The operation number of R60. -/
def Operation.number : Operation → BitVec 4
  | .ctRaw => 0
  | .ctFromRaw => 1
  | .ssRaw => 2
  | .ssFromRaw => 3
  | .pbfGetType => 4
  | .pbfGetSubsys => 5
  | .pbfGetId => 6
  | .encodeHeader => 7
  | .viewFirstByte => 8
  | .viewType => 9
  | .viewSubsys => 10
  | .viewCmdId => 11
  | .decodeHeader => 12
  | .frameNew => 13
  | .srspRaw => 14
  | .srspFromRaw => 15

/-- The operations in the order of their numbers (R60). -/
def Operation.table : Vector Operation 16 :=
  #v[.ctRaw, .ctFromRaw, .ssRaw, .ssFromRaw, .pbfGetType, .pbfGetSubsys, .pbfGetId, .encodeHeader,
     .viewFirstByte, .viewType, .viewSubsys, .viewCmdId, .decodeHeader, .frameNew, .srspRaw, .srspFromRaw]

/-- The operation whose number is `n`; all 16 numbers are used (R60). -/
def Operation.ofNumber (n : BitVec 4) : Operation := Operation.table[n.toNat]'n.isLt

namespace Machine

/-- `extract(w, hi, lo)` of R101: shift the range down, keep its `hi - lo + 1` bits. -/
def extract (w : HeaderWord) (hi lo : Nat) : BitVec (hi - lo + 1) :=
  (w >>> lo).setWidth (hi - lo + 1)

/-- `place(v, hi, lo)` of R102: the value in a 16-bit word, zero outside the range. -/
def place (hi lo : Nat) (v : BitVec (hi - lo + 1)) : HeaderWord :=
  v.setWidth 16 <<< lo

/-- Field `TYPE` of R100, bits [7:5]. -/
def extractType (w : HeaderWord) : BitVec 3 := extract w 7 5

/-- Field `SUBSYS` of R100, bits [4:0]. -/
def extractSubsys (w : HeaderWord) : BitVec 5 := extract w 4 0

/-- Field `ID` of R100, bits [15:8]. -/
def extractId (w : HeaderWord) : CommandId := extract w 15 8

/-- A word assembled from its three fields (R52): each raw value placed in its range, the three combined with OR. -/
def packHeader (t : CommandType) (s : Subsystem) (id : CommandId) : HeaderWord :=
  place 15 8 id ||| place 7 5 t.raw ||| place 4 0 s.raw

/-- `narrow_N` of R125: the same number in `N` bits, or NumericConversionError; it never truncates. -/
def narrow (N : Nat) {m : Nat} (v : BitVec m) : Except ErrorKind (BitVec N) :=
  if 2 ^ N ≤ v.toNat then .error .numericConversion else .ok (v.setWidth N)

/-- `word_from_bytes(b0, b1)` of R31: the first transmitted byte is the low one. -/
def wordFromBytes (b0 b1 : Byte) : HeaderWord := b1 ++ b0

/-- `MAX_LEN` of R4, the protocol ceiling of the frame length. -/
def maxLength : Nat := 250

/-- `bytes_from_word(w)` of R31: the byte transmitted first, then the second. -/
def bytesFromWord (w : HeaderWord) : Byte × Byte := (w.setWidth 8, (w >>> 8).setWidth 8)

end Machine

end Sys2Proof
end

