-- ==== Sys2Proof/Decode.lean ====
section
/-! DEFINITION. Lines (the encoded evaluations a caller lines up), the decoder, the encoder, and the table's rows as data.
The table gives an operation 4 bits, a header row 16 and an SRSP row 8, in four spaces that overlap as bare bits; a line
names its space (DESIGN CHOICE: log 6). An operation's operands follow its number, one byte each, a header word as its two wire bytes
(DESIGN CHOICE: log 5). -/

namespace Sys2Proof

open Machine (extractType extractSubsys extractId packHeader wordFromBytes bytesFromWord)

/-- The four groups of rows of spec/opcode_table.json (30_encoding.md section 6). -/
inductive Space where
  | operation
  | headerType
  | headerSubsystem
  | srspErrorCode
deriving DecidableEq, Repr

/-- One encoded evaluation: where it is presented, and its bytes in transmission order. -/
structure Line where
  space : Space
  bytes : List Byte
deriving DecidableEq, Repr

/-- Why a line is no instruction. -/
inductive LineDefect where
  /-- The line has no byte. -/
  | empty
  /-- The first byte of an operation's line is above 15: there are 16 operations (R60). -/
  | operationNumber
  /-- The bytes are not as many as the inputs of the operation, or of the row's word, take. -/
  | operandCount
  /-- A number that a typed port cannot carry: a tag outside its enumeration (R16, U4, U6). -/
  | operandOutsidePort
deriving DecidableEq, Repr

/-- The row of the type table that a word with this type tag matches (R54). -/
def typeRow (id : CommandId) (s : Subsystem) : CommandType → Instr
  | .poll => .poll id s
  | .syncRequest => .syncRequest id s
  | .asyncRequest => .asyncRequest id s
  | .syncResponse => .syncResponse id s
  | .reserved4 => .reserved4 id s
  | .reserved5 => .reserved5 id s
  | .reserved6 => .reserved6 id s
  | .reserved7 => .reserved7 id s

/-- The row of the subsystem table that a word with this subsystem tag matches (R55). -/
def subsystemRow (id : CommandId) (t : CommandType) : Subsystem → Instr
  | .rpcError => .rpcError id t
  | .sys => .sys id t
  | .reserved2 => .reserved2 id t
  | .reserved3 => .reserved3 id t
  | .af => .af id t
  | .zdo => .zdo id t
  | .simpleApi => .simpleApi id t
  | .util => .util id t
  | .reserved8 => .reserved8 id t
  | .app => .app id t
  | .reserved10 => .reserved10 id t
  | .reserved11 => .reserved11 id t
  | .reserved12 => .reserved12 id t
  | .reserved13 => .reserved13 id t
  | .reserved14 => .reserved14 id t
  | .reserved15 => .reserved15 id t
  | .reserved16 => .reserved16 id t
  | .reserved17 => .reserved17 id t
  | .reserved18 => .reserved18 id t
  | .reserved19 => .reserved19 id t
  | .reserved20 => .reserved20 id t
  | .reserved21 => .reserved21 id t
  | .reserved22 => .reserved22 id t
  | .reserved23 => .reserved23 id t
  | .reserved24 => .reserved24 id t
  | .reserved25 => .reserved25 id t
  | .reserved26 => .reserved26 id t
  | .reserved27 => .reserved27 id t
  | .reserved28 => .reserved28 id t
  | .reserved29 => .reserved29 id t
  | .reserved30 => .reserved30 id t
  | .reserved31 => .reserved31 id t

/-- The row of the SRSP table with this tag (R58). -/
def srspRow : SRSPErrorCode → Instr
  | .ok => .ok
  | .invalidSubsystem => .invalidSubsystem
  | .invalidCommandId => .invalidCommandId
  | .invalidParameter => .invalidParameter
  | .invalidLength => .invalidLength

/-- A byte on a typed 3-bit port. -/
def typePort (b : Byte) : Except LineDefect CommandType :=
  if b.toNat < 8 then .ok (CommandType.ofRaw (b.setWidth 3)) else .error .operandOutsidePort

/-- A byte on a typed 5-bit port. -/
def subsystemPort (b : Byte) : Except LineDefect Subsystem :=
  if b.toNat < 32 then .ok (Subsystem.ofRaw (b.setWidth 5)) else .error .operandOutsidePort

/-- A byte on the typed SRSPErrorCode port, which carries 0 to 4 (R16, U4). -/
def srspPort (b : Byte) : Except LineDefect SRSPErrorCode :=
  if h : b.toNat < 5 then .ok (SRSPErrorCode.ofRaw ⟨b.toNat, h⟩) else .error .operandOutsidePort

/-- One operand byte. -/
def decodeByte (f : Byte → Except LineDefect Instr) : List Byte → Except LineDefect Instr
  | [b] => f b
  | _ => .error .operandCount

/-- A header word: its first wire byte, then its second (R31). -/
def decodeWord (f : HeaderWord → Except LineDefect Instr) : List Byte → Except LineDefect Instr
  | [b0, b1] => f (wordFromBytes b0 b1)
  | _ => .error .operandCount

/-- `ENCODE_HEADER`'s three inputs, in the order of R115. -/
def decodeFields : List Byte → Except LineDefect Instr
  | [t, s, id] =>
    match typePort t, subsystemPort s with
    | .ok t', .ok s' => .ok (.encodeHeader t' s' id)
    | .error d, _ => .error d
    | .ok _, .error d => .error d
  | _ => .error .operandCount

/-- `FRAME_NEW`'s inputs in the order of R145: the length, the header's two wire bytes, and all bytes that are left. -/
def decodeFrame : List Byte → Except LineDefect Instr
  | length :: b0 :: b1 :: payload => .ok (.frameNew length (wordFromBytes b0 b1) payload)
  | _ => .error .operandCount

/-- The operands of an operation (inputs of R18). -/
def decodeOperands (operands : List Byte) : Operation → Except LineDefect Instr
  | .ctRaw => decodeByte (fun b => (typePort b).map .ctRaw) operands
  | .ctFromRaw => decodeByte (fun b => .ok (.ctFromRaw b)) operands
  | .ssRaw => decodeByte (fun b => (subsystemPort b).map .ssRaw) operands
  | .ssFromRaw => decodeByte (fun b => .ok (.ssFromRaw b)) operands
  | .pbfGetType => decodeWord (fun w => .ok (.pbfGetType w)) operands
  | .pbfGetSubsys => decodeWord (fun w => .ok (.pbfGetSubsys w)) operands
  | .pbfGetId => decodeWord (fun w => .ok (.pbfGetId w)) operands
  | .encodeHeader => decodeFields operands
  | .viewFirstByte => decodeWord (fun w => .ok (.viewFirstByte w)) operands
  | .viewType => decodeWord (fun w => .ok (.viewType w)) operands
  | .viewSubsys => decodeWord (fun w => .ok (.viewSubsys w)) operands
  | .viewCmdId => decodeWord (fun w => .ok (.viewCmdId w)) operands
  | .decodeHeader => decodeWord (fun w => .ok (.decodeHeader w)) operands
  | .frameNew => decodeFrame operands
  | .srspRaw => decodeByte (fun b => (srspPort b).map .srspRaw) operands
  | .srspFromRaw => decodeByte (fun b => .ok (.srspFromRaw b)) operands

/-- An operation's line: the number of R60, then the operands. -/
def decodeOperation : List Byte → Except LineDefect Instr
  | [] => .error .empty
  | n :: operands =>
    if n.toNat < 16 then decodeOperands operands (Operation.ofNumber (n.setWidth 4))
    else .error .operationNumber

/-- A word read through the type table: exactly one row matches it (R54, R57). -/
def decodeTypeRow (w : HeaderWord) : Instr :=
  typeRow (extractId w) (Subsystem.ofRaw (extractSubsys w)) (CommandType.ofRaw (extractType w))

/-- A word read through the subsystem table: exactly one row matches it (R55, R57). -/
def decodeSubsystemRow (w : HeaderWord) : Instr :=
  subsystemRow (extractId w) (CommandType.ofRaw (extractType w)) (Subsystem.ofRaw (extractSubsys w))

/-- A byte read through the SRSP table. A byte without a row has no tag (R58); what the block does with it is
`SRSP_FROM_RAW`'s decode error (R150), so it is read as that operation's input (DEDUCED: log 7). -/
def decodeSrspRow (b : Byte) : Instr :=
  match srspPort b with
  | .ok e => srspRow e
  | .error _ => .srspFromRaw b

/-- The decoder, total on any line; a line that is no instruction is rejected by name. -/
def decode (l : Line) : Except LineDefect Instr :=
  match l.space with
  | .operation => decodeOperation l.bytes
  | .headerType => decodeWord (fun w => .ok (decodeTypeRow w)) l.bytes
  | .headerSubsystem => decodeWord (fun w => .ok (decodeSubsystemRow w)) l.bytes
  | .srspErrorCode => decodeByte (fun b => .ok (decodeSrspRow b)) l.bytes

/-- A header word's two bytes in transmission order (R31). -/
def wireWord (w : HeaderWord) : List Byte := [(bytesFromWord w).1, (bytesFromWord w).2]

/-- The line of an operation. -/
def operationLine (op : Operation) (operands : List Byte) : Line :=
  ⟨.operation, op.number.setWidth 8 :: operands⟩

/-- The line of a header word read through the type table. -/
def typeLine (t : CommandType) (id : CommandId) (s : Subsystem) : Line :=
  ⟨.headerType, wireWord (packHeader t s id)⟩

/-- The line of a header word read through the subsystem table. -/
def subsystemLine (s : Subsystem) (id : CommandId) (t : CommandType) : Line :=
  ⟨.headerSubsystem, wireWord (packHeader t s id)⟩

/-- The line of an SRSP byte. -/
def srspLine (e : SRSPErrorCode) : Line := ⟨.srspErrorCode, [e.raw]⟩

/-- The encoder: the line of an instruction. -/
def encode : Instr → Line
  | .ctRaw t => operationLine .ctRaw [t.raw.setWidth 8]
  | .ctFromRaw n => operationLine .ctFromRaw [n]
  | .ssRaw s => operationLine .ssRaw [s.raw.setWidth 8]
  | .ssFromRaw n => operationLine .ssFromRaw [n]
  | .pbfGetType h => operationLine .pbfGetType (wireWord h)
  | .pbfGetSubsys h => operationLine .pbfGetSubsys (wireWord h)
  | .pbfGetId h => operationLine .pbfGetId (wireWord h)
  | .encodeHeader t s id => operationLine .encodeHeader [t.raw.setWidth 8, s.raw.setWidth 8, id]
  | .viewFirstByte w => operationLine .viewFirstByte (wireWord w)
  | .viewType w => operationLine .viewType (wireWord w)
  | .viewSubsys w => operationLine .viewSubsys (wireWord w)
  | .viewCmdId w => operationLine .viewCmdId (wireWord w)
  | .decodeHeader w => operationLine .decodeHeader (wireWord w)
  | .frameNew length h payload => operationLine .frameNew (length :: (wireWord h ++ payload))
  | .srspRaw e => operationLine .srspRaw [e.raw]
  | .srspFromRaw b => operationLine .srspFromRaw [b]
  | .poll id s => typeLine .poll id s
  | .syncRequest id s => typeLine .syncRequest id s
  | .asyncRequest id s => typeLine .asyncRequest id s
  | .syncResponse id s => typeLine .syncResponse id s
  | .reserved4 id s => typeLine .reserved4 id s
  | .reserved5 id s => typeLine .reserved5 id s
  | .reserved6 id s => typeLine .reserved6 id s
  | .reserved7 id s => typeLine .reserved7 id s
  | .rpcError id t => subsystemLine .rpcError id t
  | .sys id t => subsystemLine .sys id t
  | .reserved2 id t => subsystemLine .reserved2 id t
  | .reserved3 id t => subsystemLine .reserved3 id t
  | .af id t => subsystemLine .af id t
  | .zdo id t => subsystemLine .zdo id t
  | .simpleApi id t => subsystemLine .simpleApi id t
  | .util id t => subsystemLine .util id t
  | .reserved8 id t => subsystemLine .reserved8 id t
  | .app id t => subsystemLine .app id t
  | .reserved10 id t => subsystemLine .reserved10 id t
  | .reserved11 id t => subsystemLine .reserved11 id t
  | .reserved12 id t => subsystemLine .reserved12 id t
  | .reserved13 id t => subsystemLine .reserved13 id t
  | .reserved14 id t => subsystemLine .reserved14 id t
  | .reserved15 id t => subsystemLine .reserved15 id t
  | .reserved16 id t => subsystemLine .reserved16 id t
  | .reserved17 id t => subsystemLine .reserved17 id t
  | .reserved18 id t => subsystemLine .reserved18 id t
  | .reserved19 id t => subsystemLine .reserved19 id t
  | .reserved20 id t => subsystemLine .reserved20 id t
  | .reserved21 id t => subsystemLine .reserved21 id t
  | .reserved22 id t => subsystemLine .reserved22 id t
  | .reserved23 id t => subsystemLine .reserved23 id t
  | .reserved24 id t => subsystemLine .reserved24 id t
  | .reserved25 id t => subsystemLine .reserved25 id t
  | .reserved26 id t => subsystemLine .reserved26 id t
  | .reserved27 id t => subsystemLine .reserved27 id t
  | .reserved28 id t => subsystemLine .reserved28 id t
  | .reserved29 id t => subsystemLine .reserved29 id t
  | .reserved30 id t => subsystemLine .reserved30 id t
  | .reserved31 id t => subsystemLine .reserved31 id t
  | .ok => srspLine .ok
  | .invalidSubsystem => srspLine .invalidSubsystem
  | .invalidCommandId => srspLine .invalidCommandId
  | .invalidParameter => srspLine .invalidParameter
  | .invalidLength => srspLine .invalidLength

/-- A row of spec/opcode_table.json: its space, and the `mask` and `match` by which it selects. -/
structure Row where
  space : Space
  mask : Nat
  pattern : Nat
deriving DecidableEq, Repr

/-- The bytes of a line as one number, bit 0 the least significant bit of the first byte (the table's numbering). -/
def lineNumber : List Byte → Nat
  | [] => 0
  | b :: rest => b.toNat + 256 * lineNumber rest

/-- The table's rule of selection: `(w & mask) == match`. -/
def Row.selects (r : Row) (l : Line) : Bool :=
  r.space == l.space && (lineNumber l.bytes &&& r.mask) == r.pattern

/-- The table row of each instruction, `match` and `mask` as the table has them. -/
def rowOf : Instr → Row
  | .ctRaw _ => ⟨.operation, 0xF, 0x0⟩
  | .ctFromRaw _ => ⟨.operation, 0xF, 0x1⟩
  | .ssRaw _ => ⟨.operation, 0xF, 0x2⟩
  | .ssFromRaw _ => ⟨.operation, 0xF, 0x3⟩
  | .pbfGetType _ => ⟨.operation, 0xF, 0x4⟩
  | .pbfGetSubsys _ => ⟨.operation, 0xF, 0x5⟩
  | .pbfGetId _ => ⟨.operation, 0xF, 0x6⟩
  | .encodeHeader _ _ _ => ⟨.operation, 0xF, 0x7⟩
  | .viewFirstByte _ => ⟨.operation, 0xF, 0x8⟩
  | .viewType _ => ⟨.operation, 0xF, 0x9⟩
  | .viewSubsys _ => ⟨.operation, 0xF, 0xA⟩
  | .viewCmdId _ => ⟨.operation, 0xF, 0xB⟩
  | .decodeHeader _ => ⟨.operation, 0xF, 0xC⟩
  | .frameNew _ _ _ => ⟨.operation, 0xF, 0xD⟩
  | .srspRaw _ => ⟨.operation, 0xF, 0xE⟩
  | .srspFromRaw _ => ⟨.operation, 0xF, 0xF⟩
  | .poll _ _ => ⟨.headerType, 0x00E0, 0x0000⟩
  | .syncRequest _ _ => ⟨.headerType, 0x00E0, 0x0020⟩
  | .asyncRequest _ _ => ⟨.headerType, 0x00E0, 0x0040⟩
  | .syncResponse _ _ => ⟨.headerType, 0x00E0, 0x0060⟩
  | .reserved4 _ _ => ⟨.headerType, 0x00E0, 0x0080⟩
  | .reserved5 _ _ => ⟨.headerType, 0x00E0, 0x00A0⟩
  | .reserved6 _ _ => ⟨.headerType, 0x00E0, 0x00C0⟩
  | .reserved7 _ _ => ⟨.headerType, 0x00E0, 0x00E0⟩
  | .rpcError _ _ => ⟨.headerSubsystem, 0x001F, 0x0000⟩
  | .sys _ _ => ⟨.headerSubsystem, 0x001F, 0x0001⟩
  | .reserved2 _ _ => ⟨.headerSubsystem, 0x001F, 0x0002⟩
  | .reserved3 _ _ => ⟨.headerSubsystem, 0x001F, 0x0003⟩
  | .af _ _ => ⟨.headerSubsystem, 0x001F, 0x0004⟩
  | .zdo _ _ => ⟨.headerSubsystem, 0x001F, 0x0005⟩
  | .simpleApi _ _ => ⟨.headerSubsystem, 0x001F, 0x0006⟩
  | .util _ _ => ⟨.headerSubsystem, 0x001F, 0x0007⟩
  | .reserved8 _ _ => ⟨.headerSubsystem, 0x001F, 0x0008⟩
  | .app _ _ => ⟨.headerSubsystem, 0x001F, 0x0009⟩
  | .reserved10 _ _ => ⟨.headerSubsystem, 0x001F, 0x000A⟩
  | .reserved11 _ _ => ⟨.headerSubsystem, 0x001F, 0x000B⟩
  | .reserved12 _ _ => ⟨.headerSubsystem, 0x001F, 0x000C⟩
  | .reserved13 _ _ => ⟨.headerSubsystem, 0x001F, 0x000D⟩
  | .reserved14 _ _ => ⟨.headerSubsystem, 0x001F, 0x000E⟩
  | .reserved15 _ _ => ⟨.headerSubsystem, 0x001F, 0x000F⟩
  | .reserved16 _ _ => ⟨.headerSubsystem, 0x001F, 0x0010⟩
  | .reserved17 _ _ => ⟨.headerSubsystem, 0x001F, 0x0011⟩
  | .reserved18 _ _ => ⟨.headerSubsystem, 0x001F, 0x0012⟩
  | .reserved19 _ _ => ⟨.headerSubsystem, 0x001F, 0x0013⟩
  | .reserved20 _ _ => ⟨.headerSubsystem, 0x001F, 0x0014⟩
  | .reserved21 _ _ => ⟨.headerSubsystem, 0x001F, 0x0015⟩
  | .reserved22 _ _ => ⟨.headerSubsystem, 0x001F, 0x0016⟩
  | .reserved23 _ _ => ⟨.headerSubsystem, 0x001F, 0x0017⟩
  | .reserved24 _ _ => ⟨.headerSubsystem, 0x001F, 0x0018⟩
  | .reserved25 _ _ => ⟨.headerSubsystem, 0x001F, 0x0019⟩
  | .reserved26 _ _ => ⟨.headerSubsystem, 0x001F, 0x001A⟩
  | .reserved27 _ _ => ⟨.headerSubsystem, 0x001F, 0x001B⟩
  | .reserved28 _ _ => ⟨.headerSubsystem, 0x001F, 0x001C⟩
  | .reserved29 _ _ => ⟨.headerSubsystem, 0x001F, 0x001D⟩
  | .reserved30 _ _ => ⟨.headerSubsystem, 0x001F, 0x001E⟩
  | .reserved31 _ _ => ⟨.headerSubsystem, 0x001F, 0x001F⟩
  | .ok => ⟨.srspErrorCode, 0xFF, 0x00⟩
  | .invalidSubsystem => ⟨.srspErrorCode, 0xFF, 0x01⟩
  | .invalidCommandId => ⟨.srspErrorCode, 0xFF, 0x02⟩
  | .invalidParameter => ⟨.srspErrorCode, 0xFF, 0x03⟩
  | .invalidLength => ⟨.srspErrorCode, 0xFF, 0x04⟩

/-- Operand bytes of zeros for an operation of an instance with this capacity. -/
def zeroOperands (capacity : Nat) : Operation → List Byte
  | .ctRaw => [0]
  | .ctFromRaw => [0]
  | .ssRaw => [0]
  | .ssFromRaw => [0]
  | .pbfGetType => [0, 0]
  | .pbfGetSubsys => [0, 0]
  | .pbfGetId => [0, 0]
  | .encodeHeader => [0, 0, 0]
  | .viewFirstByte => [0, 0]
  | .viewType => [0, 0]
  | .viewSubsys => [0, 0]
  | .viewCmdId => [0, 0]
  | .decodeHeader => [0, 0]
  | .frameNew => 0 :: 0 :: 0 :: List.replicate capacity 0
  | .srspRaw => [0]
  | .srspFromRaw => [0]

/-- A 16-bit word of the table as a line. Every word matches one type row and one subsystem row; which of the two is asked
for cannot be read from the bits, and both rows mean the same evaluation. The model takes the type row, unless the type
field is 0 and the subsystem field is not (DESIGN CHOICE: log 6). -/
def tableHeaderLine (w : HeaderWord) : Line :=
  if (extractType w == 0 && extractSubsys w != 0) = true then ⟨.headerSubsystem, wireWord w⟩
  else ⟨.headerType, wireWord w⟩

/-- A line for bits numbered as the table numbers them, operand bytes above them zero: up to 8 bits an operation number
(0 to 15) or else an SRSP byte, up to 16 bits a header word; the table has no wider row (DESIGN CHOICE: log 6). -/
def tableLine (capacity nbits w : Nat) : Line :=
  if nbits ≤ 8 then
    if w < 16 then
      ⟨.operation, BitVec.ofNat 8 w :: zeroOperands capacity (Operation.ofNumber (BitVec.ofNat 4 w))⟩
    else ⟨.srspErrorCode, [BitVec.ofNat 8 w]⟩
  else if nbits ≤ 16 then tableHeaderLine (BitVec.ofNat 16 w)
  else ⟨.operation, []⟩

/-- What the decoder reads from a table word; `none` where it refuses. -/
def decodeTableWord (nbits w : Nat) : Option Instr :=
  (decode (tableLine Config.capacity nbits w)).toOption

end Sys2Proof
end

