-- ==== Sys2Proof/Machine/State.lean ====
section
/-! DEFINITION. The values on the block's outputs, the state, and the reasons a step can stop. The block itself keeps
nothing (R10); what the state holds is the instance's parameter, what the caller has lined up, and the list of results that
R197 calls a run's end state (DESIGN CHOICE: log 1, log 2). -/

namespace Sys2Proof.Machine

/-- A Frame of an instance of this capacity (R19, D13). Its invariant is part of the type, so an ill-formed Frame cannot be
written down (R146); exactly `length` data bytes are kept, so the padding cannot be observed (R36, D15; DESIGN CHOICE: log 9). -/
structure Frame (capacity : Nat) where
  length : Length
  header : CommandHeader
  data : List Byte
  length_le_maxLength : length.toNat ≤ maxLength
  length_le_capacity : length.toNat ≤ capacity
  data_length : data.length = length.toNat
deriving DecidableEq, Repr

/-- What the data outputs of an operation carry when its status is `OK` (the table of R18), in an instance of this
capacity. -/
inductive Value (capacity : Nat) where
  | rawType (n : BitVec 3)
  | type (t : CommandType)
  | rawSubsystem (n : BitVec 5)
  | subsystem (s : Subsystem)
  | commandId (id : CommandId)
  | headerWord (w : HeaderWord)
  | firstByte (fb : FirstByte)
  | fields (t : CommandType) (s : Subsystem) (id : CommandId)
  | frame (f : Frame capacity)
  | srspByte (b : Byte)
  | srspCode (e : SRSPErrorCode)
deriving DecidableEq, Repr

/-- One complete evaluation: on which operation's outputs, and a value or an error kind, never both (R173). -/
structure Result (capacity : Nat) where
  operation : Operation
  outcome : Except ErrorKind (Value capacity)
deriving DecidableEq, Repr

/-- The state of a run. -/
structure State where
  /-- The instance's parameter `N` (R4, R20, D13). No step changes it. -/
  capacity : Nat
  /-- The evaluations the caller has lined up, the next one first (R12). -/
  pending : List Line
  /-- The results of the evaluations that are complete, oldest first (R10, R197). No operation reads it.
  They are results of this instance, so a Frame among them satisfies R146 for this capacity. -/
  results : List (Result capacity)
deriving DecidableEq, Repr

/-- Why the machine stops. The block itself never stops, traps or hangs (R172, R179). -/
inductive Fault where
  /-- Raised by `FRAME_NEW` alone, when both length checks pass and the payload handed to it has fewer bytes than the
  Frame has to hold: data bytes that nobody drives (R192; DESIGN CHOICE: log 8). Safe: a well-formed instruction never raises it. -/
  | payloadNotDriven
deriving DecidableEq, Repr

/-- Why the machine refuses. -/
inductive Refusal where
  /-- An instruction without a meaning; no arm of `exec` uses it. Safe. -/
  | notModelled (mnemonic : String)
  /-- Raised by `step` on a line that the block's inputs cannot carry (R16, U4, U6; DESIGN CHOICE: log 5, log 7). Safe: the spec says
  that such a pattern cannot be presented. -/
  | notPresentable (defect : LineDefect)
deriving DecidableEq, Repr

/-- Right after reset: nothing lined up, nothing evaluated, the parameter open (R190, R193; DESIGN CHOICE: log 1, log 2). -/
def State.reset : State := { capacity := Config.capacity, pending := [], results := [] }

end Sys2Proof.Machine
end

