-- ==== Sys2Proof/Machine/Flags.lean ====
section
/-! DEFINITION. The status output (R13, R169). There is no stored flag. -/

namespace Sys2Proof.Machine

/-- The code of an error kind (R169, D3). -/
def errorStatus : ErrorKind → Status
  | .numericConversion => 0b01
  | .outOfRangeConstruction => 0b10
  | .decodeError => 0b11

/-- The status output of an evaluation: `OK` is 0 (R169). -/
def outcomeStatus {α : Type} : Except ErrorKind α → Status
  | .ok _ => 0b00
  | .error k => errorStatus k

/-- The status of a complete evaluation. It is a function of that evaluation's outcome alone (R13). -/
def Result.status {capacity : Nat} (r : Result capacity) : Status := outcomeStatus r.outcome

end Sys2Proof.Machine
end

