-- ==== Sys2Proof/Machine/Ops.lean ====
section
/-! DEFINITION. How an evaluation ends: a value is returned, or an error kind is (the block's whole exception mechanism,
R172), and how the next line is taken. -/

namespace Sys2Proof.Machine

/-- `return v` of R8: the operation's outputs carry `v` with status `OK`. -/
def State.complete (s : State) (op : Operation) (v : Value s.capacity) : State :=
  { s with results := s.results ++ [⟨op, .ok v⟩] }

/-- `raise <Kind>()` of R8 and R172: the error appears on that operation's status in the same evaluation and nowhere else;
nothing is saved, no mode changes, control goes nowhere. The evaluation is complete (R174), so the run goes on. -/
def State.raise (s : State) (op : Operation) (k : ErrorKind) : State :=
  { s with results := s.results ++ [⟨op, .error k⟩] }

/-- The end of an evaluation, value or error kind. -/
def State.finish (s : State) (op : Operation) (o : Except ErrorKind (Value s.capacity)) :
    Host.Outcome State Fault Refusal :=
  match o with
  | .ok v => .next (s.complete op v)
  | .error k => .next (s.raise op k)

/-- The line the caller presents next. -/
def State.nextLine (s : State) : Option Line := s.pending.head?

/-- The state once that line has been taken. -/
def State.takeLine (s : State) : State := { s with pending := s.pending.tail }

/-- The caller puts a line before the others. -/
def State.present (s : State) (l : Line) : State := { s with pending := l :: s.pending }

end Sys2Proof.Machine
end

