-- ==== Sys2Proof/Machine/Encoder.lean ====
section
/-! DEFINITION. `ENCODE_HEADER`, 42_command_header_encoder.md. -/

namespace Sys2Proof.Machine

/-- `ENCODE_HEADER`, R115. -/
def encodeHeader (t : CommandType) (s : Subsystem) (id : CommandId) : HeaderWord := packHeader t s id

/-- `ENCODE_HEADER`: always `OK`, every typed triple is legal (R115). -/
def execEncodeHeader (t : CommandType) (s : Subsystem) (id : CommandId) (st : State) :
    Host.Outcome State Fault Refusal :=
  st.finish .encodeHeader (.ok (.headerWord (encodeHeader t s id)))

end Sys2Proof.Machine
end

