-- ==== Sys2Proof/Machine/Enumerations.lean ====
section
/-! DEFINITION. The four operations of 40_enumerations.md. -/

namespace Sys2Proof.Machine

/-- `CT_RAW`, R80. -/
def ctRaw (t : CommandType) : BitVec 3 := t.raw

/-- `CT_FROM_RAW`, R81: no wrap, no clamp. -/
def ctFromRaw (n : RawByte) : Except ErrorKind CommandType :=
  if 7 < n.toNat then .error .outOfRangeConstruction else .ok (CommandType.ofRaw (n.setWidth 3))

/-- `SS_RAW`, R82. -/
def ssRaw (s : Subsystem) : BitVec 5 := s.raw

/-- `SS_FROM_RAW`, R83: no wrap, no clamp. -/
def ssFromRaw (n : RawByte) : Except ErrorKind Subsystem :=
  if 31 < n.toNat then .error .outOfRangeConstruction else .ok (Subsystem.ofRaw (n.setWidth 5))

/-- `CT_RAW`: always `OK` (R80). -/
def execCtRaw (t : CommandType) (st : State) : Host.Outcome State Fault Refusal :=
  st.finish .ctRaw (.ok (.rawType (ctRaw t)))

/-- `CT_FROM_RAW` (R81). -/
def execCtFromRaw (n : RawByte) (st : State) : Host.Outcome State Fault Refusal :=
  st.finish .ctFromRaw ((ctFromRaw n).map .type)

/-- `SS_RAW`: always `OK` (R82). -/
def execSsRaw (s : Subsystem) (st : State) : Host.Outcome State Fault Refusal :=
  st.finish .ssRaw (.ok (.rawSubsystem (ssRaw s)))

/-- `SS_FROM_RAW` (R83). -/
def execSsFromRaw (n : RawByte) (st : State) : Host.Outcome State Fault Refusal :=
  st.finish .ssFromRaw ((ssFromRaw n).map .subsystem)

end Sys2Proof.Machine
end

