-- ==== Sys2Proof/Machine/Frames.lean ====
section
/-! DEFINITION. `FRAME_NEW` and the wire layout of a Frame, 44_frame_and_srsp.md section 1 and 20_memory.md R32. -/

namespace Sys2Proof.Machine

/-- The two tests of R145 and what passing them proves. Both bounds raise the same kind (D14); the length is never clamped. -/
def checkLength (capacity : Nat) (length : Length) :
    Except ErrorKind (PLift (length.toNat ≤ maxLength ∧ length.toNat ≤ capacity)) :=
  if overMax : maxLength < length.toNat then .error .outOfRangeConstruction
  else if overCapacity : capacity < length.toNat then .error .outOfRangeConstruction
  else .ok ⟨Nat.le_of_not_lt overMax, Nat.le_of_not_lt overCapacity⟩

/-- `FRAME_NEW`, the one pure function of R18 and R145: a length over either bound is rejected, the header is never checked,
and of the `N` payload bytes the Frame keeps the first `length`; the rest is padding that nothing may observe (R36). -/
def frameNew (capacity : Nat) (length : Length) (h : CommandHeader) (payload : Vector Byte capacity) :
    Except ErrorKind (Frame capacity) :=
  (checkLength capacity length).map fun bounds =>
    { length := length
      header := h
      data := payload.toList.take length.toNat
      length_le_maxLength := bounds.down.1
      length_le_capacity := bounds.down.2
      data_length := List.length_take_of_le (payload.length_toList.symm ▸ bounds.down.2) }

/-- The bytes of an instruction on the `N`-byte payload input. `N` bytes are passed as they are; of more only the first `N`
are passed, and places nobody drives are filled up, which no Frame can show (DESIGN CHOICE: log 8). -/
def payloadPort (capacity : Nat) (payload : List Byte) : Vector Byte capacity :=
  ⟨((payload ++ List.replicate capacity 0).take capacity).toArray, by simp⟩

/-- The lengths pass both tests and a data byte of the Frame is not driven; on a payload of `N` bytes that never holds. -/
def dataUndriven (capacity : Nat) (length : Length) (payload : List Byte) : Bool :=
  decide (length.toNat ≤ maxLength) && decide (length.toNat ≤ capacity) && decide (payload.length < length.toNat)

/-- `FRAME_NEW` (R145), except that a Frame whose data bytes are not all driven is not represented (R192; DESIGN CHOICE:
log 8). -/
def execFrameNew (length : Length) (h : CommandHeader) (payload : List Byte) (st : State) :
    Host.Outcome State Fault Refusal :=
  if dataUndriven st.capacity length payload = true then .fault .payloadNotDriven
  else st.finish .frameNew ((frameNew st.capacity length h (payloadPort st.capacity payload)).map .frame)

/-- The part of a frame this block knows, in transmission order (R32): the length byte, the header's two bytes (R31, R120),
the data bytes. The transport sends it; it is not an operation of the block (R147). -/
def Frame.wireBytes {capacity : Nat} (f : Frame capacity) : List Byte := f.length :: (wireWord f.header ++ f.data)

end Sys2Proof.Machine
end

