-- ==== Sys2Proof/Machine/HeaderView.lean ====
section
/-! DEFINITION. The four accessors of the HeaderView and `DECODE_HEADER`, 43_header_view_decoder.md. The error alternative
of their result type is NumericConversionError (R125), which no 16-bit word produces (R131). -/

namespace Sys2Proof.Machine

/-- `VIEW_FIRST_BYTE`, R126. -/
def viewFirstByte (w : HeaderWord) : Except ErrorKind FirstByte := narrow 8 (w &&& 0x00FF#16)

/-- `VIEW_TYPE`, R127: a raise of the first byte propagates unchanged. -/
def viewType (w : HeaderWord) : Except ErrorKind CommandType :=
  match viewFirstByte w with
  | .error k => .error k
  | .ok fb => .ok (CommandType.ofRaw (((fb &&& 0xE0#8) >>> 5).setWidth 3))

/-- `VIEW_SUBSYS`, R128: the mask comes before the resolution to a tag, so there is no dead arm (R135). -/
def viewSubsys (w : HeaderWord) : Except ErrorKind Subsystem :=
  match viewFirstByte w with
  | .error k => .error k
  | .ok fb => .ok (Subsystem.ofRaw ((fb &&& 0x1F#8).setWidth 5))

/-- `VIEW_CMD_ID`, R129: it does not depend on the first byte. -/
def viewCmdId (w : HeaderWord) : Except ErrorKind CommandId := narrow 8 (w >>> 8)

/-- `DECODE_HEADER`, R130: the three reads, or NumericConversionError if one of them raised. -/
def decodeHeader (w : HeaderWord) : Except ErrorKind (CommandType × Subsystem × CommandId) :=
  match viewType w, viewSubsys w, viewCmdId w with
  | .ok t, .ok s, .ok id => .ok (t, s, id)
  | _, _, _ => .error .numericConversion

/-- The triple on the data outputs of `DECODE_HEADER`, in the order type, subsystem, id (R130). -/
def fieldsValue {capacity : Nat} (x : CommandType × Subsystem × CommandId) : Value capacity := .fields x.1 x.2.1 x.2.2

/-- `VIEW_FIRST_BYTE` (R126). -/
def execViewFirstByte (w : HeaderWord) (st : State) : Host.Outcome State Fault Refusal :=
  st.finish .viewFirstByte ((viewFirstByte w).map .firstByte)

/-- `VIEW_TYPE` (R127). -/
def execViewType (w : HeaderWord) (st : State) : Host.Outcome State Fault Refusal :=
  st.finish .viewType ((viewType w).map .type)

/-- `VIEW_SUBSYS` (R128). -/
def execViewSubsys (w : HeaderWord) (st : State) : Host.Outcome State Fault Refusal :=
  st.finish .viewSubsys ((viewSubsys w).map .subsystem)

/-- `VIEW_CMD_ID` (R129). -/
def execViewCmdId (w : HeaderWord) (st : State) : Host.Outcome State Fault Refusal :=
  st.finish .viewCmdId ((viewCmdId w).map .commandId)

/-- `DECODE_HEADER` (R130). -/
def execDecodeHeader (w : HeaderWord) (st : State) : Host.Outcome State Fault Refusal :=
  st.finish .decodeHeader ((decodeHeader w).map fieldsValue)

end Sys2Proof.Machine
end

