-- ==== Sys2Proof/Machine/HeaderRows.lean ====
section
/-! DEFINITION. What a header word does that arrives at the block, for each row of the two header tables (R54, R55): it is
decoded to its tags with status `OK`, reserved tags as any other (R57). The model presents the word to `DECODE_HEADER`, whose
outputs hold all three fields (DESIGN CHOICE: log 4). -/

namespace Sys2Proof.Machine

/-- A header word reaches the block: its 16 bits are decoded (R53, R57, R130). -/
def State.receiveHeader (st : State) (w : HeaderWord) : Host.Outcome State Fault Refusal :=
  st.finish .decodeHeader ((decodeHeader w).map fieldsValue)

/-- A word that carries the type `Poll` (R54). -/
def execPoll (id : CommandId) (s : Subsystem) (st : State) : Host.Outcome State Fault Refusal :=
  st.receiveHeader (packHeader .poll s id)

/-- A word that carries the type `SyncRequest` (R54). -/
def execSyncRequest (id : CommandId) (s : Subsystem) (st : State) : Host.Outcome State Fault Refusal :=
  st.receiveHeader (packHeader .syncRequest s id)

/-- A word that carries the type `AsyncRequest` (R54). -/
def execAsyncRequest (id : CommandId) (s : Subsystem) (st : State) : Host.Outcome State Fault Refusal :=
  st.receiveHeader (packHeader .asyncRequest s id)

/-- A word that carries the type `SyncResponse` (R54). -/
def execSyncResponse (id : CommandId) (s : Subsystem) (st : State) : Host.Outcome State Fault Refusal :=
  st.receiveHeader (packHeader .syncResponse s id)

/-- A word that carries the type `Reserved4` (R54). -/
def execReserved4 (id : CommandId) (s : Subsystem) (st : State) : Host.Outcome State Fault Refusal :=
  st.receiveHeader (packHeader .reserved4 s id)

/-- A word that carries the type `Reserved5` (R54). -/
def execReserved5 (id : CommandId) (s : Subsystem) (st : State) : Host.Outcome State Fault Refusal :=
  st.receiveHeader (packHeader .reserved5 s id)

/-- A word that carries the type `Reserved6` (R54). -/
def execReserved6 (id : CommandId) (s : Subsystem) (st : State) : Host.Outcome State Fault Refusal :=
  st.receiveHeader (packHeader .reserved6 s id)

/-- A word that carries the type `Reserved7` (R54). -/
def execReserved7 (id : CommandId) (s : Subsystem) (st : State) : Host.Outcome State Fault Refusal :=
  st.receiveHeader (packHeader .reserved7 s id)

/-- A word that carries the subsystem `RPCError` (R55). -/
def execRpcError (id : CommandId) (t : CommandType) (st : State) : Host.Outcome State Fault Refusal :=
  st.receiveHeader (packHeader t .rpcError id)

/-- A word that carries the subsystem `SYS` (R55). -/
def execSys (id : CommandId) (t : CommandType) (st : State) : Host.Outcome State Fault Refusal :=
  st.receiveHeader (packHeader t .sys id)

/-- A word that carries the subsystem `Reserved2` (R55). -/
def execReserved2 (id : CommandId) (t : CommandType) (st : State) : Host.Outcome State Fault Refusal :=
  st.receiveHeader (packHeader t .reserved2 id)

/-- A word that carries the subsystem `Reserved3` (R55). -/
def execReserved3 (id : CommandId) (t : CommandType) (st : State) : Host.Outcome State Fault Refusal :=
  st.receiveHeader (packHeader t .reserved3 id)

/-- A word that carries the subsystem `AF` (R55). -/
def execAf (id : CommandId) (t : CommandType) (st : State) : Host.Outcome State Fault Refusal :=
  st.receiveHeader (packHeader t .af id)

/-- A word that carries the subsystem `ZDO` (R55). -/
def execZdo (id : CommandId) (t : CommandType) (st : State) : Host.Outcome State Fault Refusal :=
  st.receiveHeader (packHeader t .zdo id)

/-- A word that carries the subsystem `SimpleAPI` (R55). -/
def execSimpleApi (id : CommandId) (t : CommandType) (st : State) : Host.Outcome State Fault Refusal :=
  st.receiveHeader (packHeader t .simpleApi id)

/-- A word that carries the subsystem `UTIL` (R55). -/
def execUtil (id : CommandId) (t : CommandType) (st : State) : Host.Outcome State Fault Refusal :=
  st.receiveHeader (packHeader t .util id)

/-- A word that carries the subsystem `Reserved8` (R55). -/
def execReserved8 (id : CommandId) (t : CommandType) (st : State) : Host.Outcome State Fault Refusal :=
  st.receiveHeader (packHeader t .reserved8 id)

/-- A word that carries the subsystem `APP` (R55). -/
def execApp (id : CommandId) (t : CommandType) (st : State) : Host.Outcome State Fault Refusal :=
  st.receiveHeader (packHeader t .app id)

/-- A word that carries the subsystem `Reserved10` (R55). -/
def execReserved10 (id : CommandId) (t : CommandType) (st : State) : Host.Outcome State Fault Refusal :=
  st.receiveHeader (packHeader t .reserved10 id)

/-- A word that carries the subsystem `Reserved11` (R55). -/
def execReserved11 (id : CommandId) (t : CommandType) (st : State) : Host.Outcome State Fault Refusal :=
  st.receiveHeader (packHeader t .reserved11 id)

/-- A word that carries the subsystem `Reserved12` (R55). -/
def execReserved12 (id : CommandId) (t : CommandType) (st : State) : Host.Outcome State Fault Refusal :=
  st.receiveHeader (packHeader t .reserved12 id)

/-- A word that carries the subsystem `Reserved13` (R55). -/
def execReserved13 (id : CommandId) (t : CommandType) (st : State) : Host.Outcome State Fault Refusal :=
  st.receiveHeader (packHeader t .reserved13 id)

/-- A word that carries the subsystem `Reserved14` (R55). -/
def execReserved14 (id : CommandId) (t : CommandType) (st : State) : Host.Outcome State Fault Refusal :=
  st.receiveHeader (packHeader t .reserved14 id)

/-- A word that carries the subsystem `Reserved15` (R55). -/
def execReserved15 (id : CommandId) (t : CommandType) (st : State) : Host.Outcome State Fault Refusal :=
  st.receiveHeader (packHeader t .reserved15 id)

/-- A word that carries the subsystem `Reserved16` (R55). -/
def execReserved16 (id : CommandId) (t : CommandType) (st : State) : Host.Outcome State Fault Refusal :=
  st.receiveHeader (packHeader t .reserved16 id)

/-- A word that carries the subsystem `Reserved17` (R55). -/
def execReserved17 (id : CommandId) (t : CommandType) (st : State) : Host.Outcome State Fault Refusal :=
  st.receiveHeader (packHeader t .reserved17 id)

/-- A word that carries the subsystem `Reserved18` (R55). -/
def execReserved18 (id : CommandId) (t : CommandType) (st : State) : Host.Outcome State Fault Refusal :=
  st.receiveHeader (packHeader t .reserved18 id)

/-- A word that carries the subsystem `Reserved19` (R55). -/
def execReserved19 (id : CommandId) (t : CommandType) (st : State) : Host.Outcome State Fault Refusal :=
  st.receiveHeader (packHeader t .reserved19 id)

/-- A word that carries the subsystem `Reserved20` (R55). -/
def execReserved20 (id : CommandId) (t : CommandType) (st : State) : Host.Outcome State Fault Refusal :=
  st.receiveHeader (packHeader t .reserved20 id)

/-- A word that carries the subsystem `Reserved21` (R55). -/
def execReserved21 (id : CommandId) (t : CommandType) (st : State) : Host.Outcome State Fault Refusal :=
  st.receiveHeader (packHeader t .reserved21 id)

/-- A word that carries the subsystem `Reserved22` (R55). -/
def execReserved22 (id : CommandId) (t : CommandType) (st : State) : Host.Outcome State Fault Refusal :=
  st.receiveHeader (packHeader t .reserved22 id)

/-- A word that carries the subsystem `Reserved23` (R55). -/
def execReserved23 (id : CommandId) (t : CommandType) (st : State) : Host.Outcome State Fault Refusal :=
  st.receiveHeader (packHeader t .reserved23 id)

/-- A word that carries the subsystem `Reserved24` (R55). -/
def execReserved24 (id : CommandId) (t : CommandType) (st : State) : Host.Outcome State Fault Refusal :=
  st.receiveHeader (packHeader t .reserved24 id)

/-- A word that carries the subsystem `Reserved25` (R55). -/
def execReserved25 (id : CommandId) (t : CommandType) (st : State) : Host.Outcome State Fault Refusal :=
  st.receiveHeader (packHeader t .reserved25 id)

/-- A word that carries the subsystem `Reserved26` (R55). -/
def execReserved26 (id : CommandId) (t : CommandType) (st : State) : Host.Outcome State Fault Refusal :=
  st.receiveHeader (packHeader t .reserved26 id)

/-- A word that carries the subsystem `Reserved27` (R55). -/
def execReserved27 (id : CommandId) (t : CommandType) (st : State) : Host.Outcome State Fault Refusal :=
  st.receiveHeader (packHeader t .reserved27 id)

/-- A word that carries the subsystem `Reserved28` (R55). -/
def execReserved28 (id : CommandId) (t : CommandType) (st : State) : Host.Outcome State Fault Refusal :=
  st.receiveHeader (packHeader t .reserved28 id)

/-- A word that carries the subsystem `Reserved29` (R55). -/
def execReserved29 (id : CommandId) (t : CommandType) (st : State) : Host.Outcome State Fault Refusal :=
  st.receiveHeader (packHeader t .reserved29 id)

/-- A word that carries the subsystem `Reserved30` (R55). -/
def execReserved30 (id : CommandId) (t : CommandType) (st : State) : Host.Outcome State Fault Refusal :=
  st.receiveHeader (packHeader t .reserved30 id)

/-- A word that carries the subsystem `Reserved31` (R55). -/
def execReserved31 (id : CommandId) (t : CommandType) (st : State) : Host.Outcome State Fault Refusal :=
  st.receiveHeader (packHeader t .reserved31 id)

end Sys2Proof.Machine
end

