-- ==== Sys2Proof/Machine/PackedBitfield.lean ====
section
/-! DEFINITION. The three typed field reads of a CommandHeader, 41_packed_bitfield_accessor.md. -/

namespace Sys2Proof.Machine

/-- `PBF_GET_TYPE`, R103. -/
def pbfGetType (h : CommandHeader) : CommandType := CommandType.ofRaw (extractType h)

/-- `PBF_GET_SUBSYS`, R104. -/
def pbfGetSubsys (h : CommandHeader) : Subsystem := Subsystem.ofRaw (extractSubsys h)

/-- `PBF_GET_ID`, R105. -/
def pbfGetId (h : CommandHeader) : CommandId := extractId h

/-- `PBF_GET_TYPE`: always `OK` (R103). -/
def execPbfGetType (h : CommandHeader) (st : State) : Host.Outcome State Fault Refusal :=
  st.finish .pbfGetType (.ok (.type (pbfGetType h)))

/-- `PBF_GET_SUBSYS`: always `OK` (R104). -/
def execPbfGetSubsys (h : CommandHeader) (st : State) : Host.Outcome State Fault Refusal :=
  st.finish .pbfGetSubsys (.ok (.subsystem (pbfGetSubsys h)))

/-- `PBF_GET_ID`: always `OK` (R105). -/
def execPbfGetId (h : CommandHeader) (st : State) : Host.Outcome State Fault Refusal :=
  st.finish .pbfGetId (.ok (.commandId (pbfGetId h)))

end Sys2Proof.Machine
end

