-- ==== Sys2Proof/Machine/Srsp.lean ====
section
/-! DEFINITION. `SRSP_RAW` and `SRSP_FROM_RAW`, 44_frame_and_srsp.md section 2. -/

namespace Sys2Proof.Machine

/-- `SRSP_RAW`, R149. -/
def srspRaw (e : SRSPErrorCode) : Byte := e.raw

/-- `SRSP_FROM_RAW`, R150: a byte without a tag is a decode error, not an out-of-range construction. -/
def srspFromRaw (b : RawByte) : Except ErrorKind SRSPErrorCode :=
  if h : 4 < b.toNat then .error .decodeError
  else .ok (SRSPErrorCode.ofRaw ⟨b.toNat, Nat.lt_succ_of_le (Nat.le_of_not_lt h)⟩)

/-- `SRSP_RAW`: always `OK` (R149). -/
def execSrspRaw (e : SRSPErrorCode) (st : State) : Host.Outcome State Fault Refusal :=
  st.finish .srspRaw (.ok (.srspByte (srspRaw e)))

/-- `SRSP_FROM_RAW` (R150). -/
def execSrspFromRaw (b : RawByte) (st : State) : Host.Outcome State Fault Refusal :=
  st.finish .srspFromRaw ((srspFromRaw b).map .srspCode)

end Sys2Proof.Machine
end

