-- ==== Sys2Proof/Machine/SrspRows.lean ====
section
/-! DEFINITION. What a byte of the SRSP table does that arrives at the block (R58): it is read to its tag (R150; DESIGN CHOICE: log 4). -/

namespace Sys2Proof.Machine

/-- A byte read from an SRSP error position reaches the block (R150). -/
def State.receiveSrsp (st : State) (b : Byte) : Host.Outcome State Fault Refusal :=
  st.finish .srspFromRaw ((srspFromRaw b).map .srspCode)

/-- The byte of the code `Ok` (R58). -/
def execOk (st : State) : Host.Outcome State Fault Refusal :=
  st.receiveSrsp (SRSPErrorCode.raw .ok)

/-- The byte of the code `InvalidSubsystem` (R58). -/
def execInvalidSubsystem (st : State) : Host.Outcome State Fault Refusal :=
  st.receiveSrsp (SRSPErrorCode.raw .invalidSubsystem)

/-- The byte of the code `InvalidCommandID` (R58). -/
def execInvalidCommandId (st : State) : Host.Outcome State Fault Refusal :=
  st.receiveSrsp (SRSPErrorCode.raw .invalidCommandId)

/-- The byte of the code `InvalidParameter` (R58). -/
def execInvalidParameter (st : State) : Host.Outcome State Fault Refusal :=
  st.receiveSrsp (SRSPErrorCode.raw .invalidParameter)

/-- The byte of the code `InvalidLength` (R58). -/
def execInvalidLength (st : State) : Host.Outcome State Fault Refusal :=
  st.receiveSrsp (SRSPErrorCode.raw .invalidLength)

end Sys2Proof.Machine
end

