-- ==== Sys2Proof/Machine/Dispatch.lean ====
section
/-! DEFINITION. One arm per constructor of `Instr`. -/

namespace Sys2Proof.Machine

def exec (i : Instr) (s : State) : Host.Outcome State Fault Refusal :=
  match i with
  | .ctRaw t => Sys2Proof.Machine.execCtRaw t s
  | .ctFromRaw n => Sys2Proof.Machine.execCtFromRaw n s
  | .ssRaw t => Sys2Proof.Machine.execSsRaw t s
  | .ssFromRaw n => Sys2Proof.Machine.execSsFromRaw n s
  | .pbfGetType h => Sys2Proof.Machine.execPbfGetType h s
  | .pbfGetSubsys h => Sys2Proof.Machine.execPbfGetSubsys h s
  | .pbfGetId h => Sys2Proof.Machine.execPbfGetId h s
  | .encodeHeader t u id => Sys2Proof.Machine.execEncodeHeader t u id s
  | .viewFirstByte w => Sys2Proof.Machine.execViewFirstByte w s
  | .viewType w => Sys2Proof.Machine.execViewType w s
  | .viewSubsys w => Sys2Proof.Machine.execViewSubsys w s
  | .viewCmdId w => Sys2Proof.Machine.execViewCmdId w s
  | .decodeHeader w => Sys2Proof.Machine.execDecodeHeader w s
  | .frameNew length h payload => Sys2Proof.Machine.execFrameNew length h payload s
  | .srspRaw e => Sys2Proof.Machine.execSrspRaw e s
  | .srspFromRaw b => Sys2Proof.Machine.execSrspFromRaw b s
  | .poll id t => Sys2Proof.Machine.execPoll id t s
  | .syncRequest id t => Sys2Proof.Machine.execSyncRequest id t s
  | .asyncRequest id t => Sys2Proof.Machine.execAsyncRequest id t s
  | .syncResponse id t => Sys2Proof.Machine.execSyncResponse id t s
  | .reserved4 id t => Sys2Proof.Machine.execReserved4 id t s
  | .reserved5 id t => Sys2Proof.Machine.execReserved5 id t s
  | .reserved6 id t => Sys2Proof.Machine.execReserved6 id t s
  | .reserved7 id t => Sys2Proof.Machine.execReserved7 id t s
  | .rpcError id t => Sys2Proof.Machine.execRpcError id t s
  | .sys id t => Sys2Proof.Machine.execSys id t s
  | .reserved2 id t => Sys2Proof.Machine.execReserved2 id t s
  | .reserved3 id t => Sys2Proof.Machine.execReserved3 id t s
  | .af id t => Sys2Proof.Machine.execAf id t s
  | .zdo id t => Sys2Proof.Machine.execZdo id t s
  | .simpleApi id t => Sys2Proof.Machine.execSimpleApi id t s
  | .util id t => Sys2Proof.Machine.execUtil id t s
  | .reserved8 id t => Sys2Proof.Machine.execReserved8 id t s
  | .app id t => Sys2Proof.Machine.execApp id t s
  | .reserved10 id t => Sys2Proof.Machine.execReserved10 id t s
  | .reserved11 id t => Sys2Proof.Machine.execReserved11 id t s
  | .reserved12 id t => Sys2Proof.Machine.execReserved12 id t s
  | .reserved13 id t => Sys2Proof.Machine.execReserved13 id t s
  | .reserved14 id t => Sys2Proof.Machine.execReserved14 id t s
  | .reserved15 id t => Sys2Proof.Machine.execReserved15 id t s
  | .reserved16 id t => Sys2Proof.Machine.execReserved16 id t s
  | .reserved17 id t => Sys2Proof.Machine.execReserved17 id t s
  | .reserved18 id t => Sys2Proof.Machine.execReserved18 id t s
  | .reserved19 id t => Sys2Proof.Machine.execReserved19 id t s
  | .reserved20 id t => Sys2Proof.Machine.execReserved20 id t s
  | .reserved21 id t => Sys2Proof.Machine.execReserved21 id t s
  | .reserved22 id t => Sys2Proof.Machine.execReserved22 id t s
  | .reserved23 id t => Sys2Proof.Machine.execReserved23 id t s
  | .reserved24 id t => Sys2Proof.Machine.execReserved24 id t s
  | .reserved25 id t => Sys2Proof.Machine.execReserved25 id t s
  | .reserved26 id t => Sys2Proof.Machine.execReserved26 id t s
  | .reserved27 id t => Sys2Proof.Machine.execReserved27 id t s
  | .reserved28 id t => Sys2Proof.Machine.execReserved28 id t s
  | .reserved29 id t => Sys2Proof.Machine.execReserved29 id t s
  | .reserved30 id t => Sys2Proof.Machine.execReserved30 id t s
  | .reserved31 id t => Sys2Proof.Machine.execReserved31 id t s
  | .ok => Sys2Proof.Machine.execOk s
  | .invalidSubsystem => Sys2Proof.Machine.execInvalidSubsystem s
  | .invalidCommandId => Sys2Proof.Machine.execInvalidCommandId s
  | .invalidParameter => Sys2Proof.Machine.execInvalidParameter s
  | .invalidLength => Sys2Proof.Machine.execInvalidLength s

end Sys2Proof.Machine
end

