-- ==== Sys2Proof/Machine/Step.lean ====
section
/-! DEFINITION. One step: the caller's next line is taken, decoded and evaluated. -/

namespace Sys2Proof.Machine

/-- One evaluation (R197). With nothing lined up nothing is evaluated and nothing changes (R10, R12; DEDUCED: log 3). -/
def step (s : State) : Host.Outcome State Fault Refusal :=
  match s.nextLine with
  | none => .next s
  | some l =>
    match decode l with
    | .error d => .refused (.notPresentable d)
    | .ok i => exec i s.takeLine

/-- The table word `w`, operand bytes above its `nbits` bits zero, as the line that the next step takes (DESIGN CHOICE: log 3, log 6). -/
def State.withFetchWord (s : State) (nbits w : Nat) : State := s.present (tableLine s.capacity nbits w)

end Sys2Proof.Machine
end

