-- ==== Sys2Proof/WellFormed.lean ====
section
/-! DEFINITION. When an instruction can be presented to an instance of the block. -/

namespace Sys2Proof

/-- `FRAME_NEW` takes a payload of exactly `N` bytes (R145, R18); every other input is as wide as its type (R16), so any
value of it can be presented. -/
def Instr.wellFormed (capacity : Nat) : Instr → Bool
  | .frameNew _ _ payload => payload.length == capacity
  | .ctRaw _ => true
  | .ctFromRaw _ => true
  | .ssRaw _ => true
  | .ssFromRaw _ => true
  | .pbfGetType _ => true
  | .pbfGetSubsys _ => true
  | .pbfGetId _ => true
  | .encodeHeader _ _ _ => true
  | .viewFirstByte _ => true
  | .viewType _ => true
  | .viewSubsys _ => true
  | .viewCmdId _ => true
  | .decodeHeader _ => true
  | .srspRaw _ => true
  | .srspFromRaw _ => true
  | .poll _ _ => true
  | .syncRequest _ _ => true
  | .asyncRequest _ _ => true
  | .syncResponse _ _ => true
  | .reserved4 _ _ => true
  | .reserved5 _ _ => true
  | .reserved6 _ _ => true
  | .reserved7 _ _ => true
  | .rpcError _ _ => true
  | .sys _ _ => true
  | .reserved2 _ _ => true
  | .reserved3 _ _ => true
  | .af _ _ => true
  | .zdo _ _ => true
  | .simpleApi _ _ => true
  | .util _ _ => true
  | .reserved8 _ _ => true
  | .app _ _ => true
  | .reserved10 _ _ => true
  | .reserved11 _ _ => true
  | .reserved12 _ _ => true
  | .reserved13 _ _ => true
  | .reserved14 _ _ => true
  | .reserved15 _ _ => true
  | .reserved16 _ _ => true
  | .reserved17 _ _ => true
  | .reserved18 _ _ => true
  | .reserved19 _ _ => true
  | .reserved20 _ _ => true
  | .reserved21 _ _ => true
  | .reserved22 _ _ => true
  | .reserved23 _ _ => true
  | .reserved24 _ _ => true
  | .reserved25 _ _ => true
  | .reserved26 _ _ => true
  | .reserved27 _ _ => true
  | .reserved28 _ _ => true
  | .reserved29 _ _ => true
  | .reserved30 _ _ => true
  | .reserved31 _ _ => true
  | .ok => true
  | .invalidSubsystem => true
  | .invalidCommandId => true
  | .invalidParameter => true
  | .invalidLength => true

end Sys2Proof
end

