-- ==== Sys2Proof/Safety.lean ====
section
/-! DEFINITION. What claims mean by a legal state and by a line that can be presented. -/

namespace Sys2Proof.Machine

/-- What each operation's outputs can carry: the value of its type (R18), or one of the error kinds that R165 gives it on
some input. NumericConversionError is in no operation's list (R131), and a Frame satisfies its invariant by its type (R146). -/
def Result.legal {capacity : Nat} (r : Result capacity) : Bool :=
  match r.operation, r.outcome with
  | .ctRaw, .ok (.rawType _) => true
  | .ctFromRaw, .ok (.type _) => true
  | .ctFromRaw, .error .outOfRangeConstruction => true
  | .ssRaw, .ok (.rawSubsystem _) => true
  | .ssFromRaw, .ok (.subsystem _) => true
  | .ssFromRaw, .error .outOfRangeConstruction => true
  | .pbfGetType, .ok (.type _) => true
  | .pbfGetSubsys, .ok (.subsystem _) => true
  | .pbfGetId, .ok (.commandId _) => true
  | .encodeHeader, .ok (.headerWord _) => true
  | .viewFirstByte, .ok (.firstByte _) => true
  | .viewType, .ok (.type _) => true
  | .viewSubsys, .ok (.subsystem _) => true
  | .viewCmdId, .ok (.commandId _) => true
  | .decodeHeader, .ok (.fields _ _ _) => true
  | .frameNew, .ok (.frame _) => true
  | .frameNew, .error .outOfRangeConstruction => true
  | .srspRaw, .ok (.srspByte b) => decide (b.toNat ≤ 4)
  | .srspFromRaw, .ok (.srspCode _) => true
  | .srspFromRaw, .error .decodeError => true
  | _, _ => false

/-- Every result of the run so far is one that its operation can give. -/
def State.legal (s : State) : Bool := s.results.all Result.legal

/-- A line that an instance of this capacity can be given: it decodes, to a well-formed instruction. -/
def linePresentable (capacity : Nat) (l : Line) : Bool :=
  match decode l with
  | .ok i => i.wellFormed capacity
  | .error _ => false

/-- Every line that is still lined up can be presented. -/
def State.presentable (s : State) : Bool := s.pending.all (linePresentable s.capacity)

/-- The state once an evaluation of `op` has ended with `o`: one more result, all else as it was. -/
def State.after (s : State) (op : Operation) (o : Except ErrorKind (Value s.capacity)) : State :=
  { capacity := s.capacity, pending := s.pending, results := s.results ++ [⟨op, o⟩] }

end Sys2Proof.Machine

namespace Sys2Proof

/-- The table of R165: which error kind an instruction returns, and on which inputs; no other input gives an error. -/
def Instr.errorKind (capacity : Nat) : Instr → Option ErrorKind
  | .ctFromRaw n => if 8 ≤ n.toNat then some .outOfRangeConstruction else none
  | .ssFromRaw n => if 32 ≤ n.toNat then some .outOfRangeConstruction else none
  | .frameNew length _ _ =>
    if 250 < length.toNat ∨ capacity < length.toNat then some .outOfRangeConstruction else none
  | .srspFromRaw b => if 5 ≤ b.toNat then some .decodeError else none
  | _ => none

/-- On which operation's outputs the result of an instruction appears: an operation's own, `DECODE_HEADER`'s for a header
word, `SRSP_FROM_RAW`'s for an SRSP byte (DESIGN CHOICE: log 4). -/
def Instr.outputGroup : Instr → Operation
  | .ctRaw _ => .ctRaw
  | .ctFromRaw _ => .ctFromRaw
  | .ssRaw _ => .ssRaw
  | .ssFromRaw _ => .ssFromRaw
  | .pbfGetType _ => .pbfGetType
  | .pbfGetSubsys _ => .pbfGetSubsys
  | .pbfGetId _ => .pbfGetId
  | .encodeHeader _ _ _ => .encodeHeader
  | .viewFirstByte _ => .viewFirstByte
  | .viewType _ => .viewType
  | .viewSubsys _ => .viewSubsys
  | .viewCmdId _ => .viewCmdId
  | .decodeHeader _ => .decodeHeader
  | .frameNew _ _ _ => .frameNew
  | .srspRaw _ => .srspRaw
  | .srspFromRaw _ => .srspFromRaw
  | .poll _ _ => .decodeHeader
  | .syncRequest _ _ => .decodeHeader
  | .asyncRequest _ _ => .decodeHeader
  | .syncResponse _ _ => .decodeHeader
  | .reserved4 _ _ => .decodeHeader
  | .reserved5 _ _ => .decodeHeader
  | .reserved6 _ _ => .decodeHeader
  | .reserved7 _ _ => .decodeHeader
  | .rpcError _ _ => .decodeHeader
  | .sys _ _ => .decodeHeader
  | .reserved2 _ _ => .decodeHeader
  | .reserved3 _ _ => .decodeHeader
  | .af _ _ => .decodeHeader
  | .zdo _ _ => .decodeHeader
  | .simpleApi _ _ => .decodeHeader
  | .util _ _ => .decodeHeader
  | .reserved8 _ _ => .decodeHeader
  | .app _ _ => .decodeHeader
  | .reserved10 _ _ => .decodeHeader
  | .reserved11 _ _ => .decodeHeader
  | .reserved12 _ _ => .decodeHeader
  | .reserved13 _ _ => .decodeHeader
  | .reserved14 _ _ => .decodeHeader
  | .reserved15 _ _ => .decodeHeader
  | .reserved16 _ _ => .decodeHeader
  | .reserved17 _ _ => .decodeHeader
  | .reserved18 _ _ => .decodeHeader
  | .reserved19 _ _ => .decodeHeader
  | .reserved20 _ _ => .decodeHeader
  | .reserved21 _ _ => .decodeHeader
  | .reserved22 _ _ => .decodeHeader
  | .reserved23 _ _ => .decodeHeader
  | .reserved24 _ _ => .decodeHeader
  | .reserved25 _ _ => .decodeHeader
  | .reserved26 _ _ => .decodeHeader
  | .reserved27 _ _ => .decodeHeader
  | .reserved28 _ _ => .decodeHeader
  | .reserved29 _ _ => .decodeHeader
  | .reserved30 _ _ => .decodeHeader
  | .reserved31 _ _ => .decodeHeader
  | .ok => .srspFromRaw
  | .invalidSubsystem => .srspFromRaw
  | .invalidCommandId => .srspFromRaw
  | .invalidParameter => .srspFromRaw
  | .invalidLength => .srspFromRaw

end Sys2Proof
end

