-- ==== Sys2Proof/Certificates/Slice0/Obligations.lean ====
section
/-! DEFINITION. The statements for the provers. Every statement about an evaluation gives its whole next state
(`State.after`: one result added, capacity, pending lines and earlier results unchanged), so it says its frame. -/

open Sys2Proof Sys2Proof.Machine

/-- CT_RAW gives each of the 8 CommandType tags its position in the table, status OK. States R80. -/
def Obligations.CtRawGivesTheTablePosition : Prop :=
  ∀ st : State,
    exec (.ctRaw .poll) st = .next (st.after .ctRaw (.ok (.rawType 0))) ∧
    exec (.ctRaw .syncRequest) st = .next (st.after .ctRaw (.ok (.rawType 1))) ∧
    exec (.ctRaw .asyncRequest) st = .next (st.after .ctRaw (.ok (.rawType 2))) ∧
    exec (.ctRaw .syncResponse) st = .next (st.after .ctRaw (.ok (.rawType 3))) ∧
    exec (.ctRaw .reserved4) st = .next (st.after .ctRaw (.ok (.rawType 4))) ∧
    exec (.ctRaw .reserved5) st = .next (st.after .ctRaw (.ok (.rawType 5))) ∧
    exec (.ctRaw .reserved6) st = .next (st.after .ctRaw (.ok (.rawType 6))) ∧
    exec (.ctRaw .reserved7) st = .next (st.after .ctRaw (.ok (.rawType 7)))

/-- CT_FROM_RAW gives the tag whose raw value is n, or OUT_OF_RANGE from 8 on: no wrap, no clamp. Derived from
40_enumerations.md section CT_FROM_RAW, 92_eei_decisions.md D5. The 8-bit input is the spec's decision D5. -/
def Obligations.CtFromRawGivesTheTagOrOutOfRange : Prop :=
  ∀ (n : RawByte) (st : State),
    (n.toNat ≤ 7 → ∃ t : CommandType, t.raw.toNat = n.toNat ∧
      exec (.ctFromRaw n) st = .next (st.after .ctFromRaw (.ok (.type t)))) ∧
    (8 ≤ n.toNat →
      exec (.ctFromRaw n) st = .next (st.after .ctFromRaw (.error .outOfRangeConstruction)))

/-- SS_RAW gives each of the 32 Subsystem tags its position in the table, status OK. States R82. -/
def Obligations.SsRawGivesTheTablePosition : Prop :=
  ∀ st : State,
    exec (.ssRaw .rpcError) st = .next (st.after .ssRaw (.ok (.rawSubsystem 0))) ∧
    exec (.ssRaw .sys) st = .next (st.after .ssRaw (.ok (.rawSubsystem 1))) ∧
    exec (.ssRaw .reserved2) st = .next (st.after .ssRaw (.ok (.rawSubsystem 2))) ∧
    exec (.ssRaw .reserved3) st = .next (st.after .ssRaw (.ok (.rawSubsystem 3))) ∧
    exec (.ssRaw .af) st = .next (st.after .ssRaw (.ok (.rawSubsystem 4))) ∧
    exec (.ssRaw .zdo) st = .next (st.after .ssRaw (.ok (.rawSubsystem 5))) ∧
    exec (.ssRaw .simpleApi) st = .next (st.after .ssRaw (.ok (.rawSubsystem 6))) ∧
    exec (.ssRaw .util) st = .next (st.after .ssRaw (.ok (.rawSubsystem 7))) ∧
    exec (.ssRaw .reserved8) st = .next (st.after .ssRaw (.ok (.rawSubsystem 8))) ∧
    exec (.ssRaw .app) st = .next (st.after .ssRaw (.ok (.rawSubsystem 9))) ∧
    exec (.ssRaw .reserved10) st = .next (st.after .ssRaw (.ok (.rawSubsystem 10))) ∧
    exec (.ssRaw .reserved11) st = .next (st.after .ssRaw (.ok (.rawSubsystem 11))) ∧
    exec (.ssRaw .reserved12) st = .next (st.after .ssRaw (.ok (.rawSubsystem 12))) ∧
    exec (.ssRaw .reserved13) st = .next (st.after .ssRaw (.ok (.rawSubsystem 13))) ∧
    exec (.ssRaw .reserved14) st = .next (st.after .ssRaw (.ok (.rawSubsystem 14))) ∧
    exec (.ssRaw .reserved15) st = .next (st.after .ssRaw (.ok (.rawSubsystem 15))) ∧
    exec (.ssRaw .reserved16) st = .next (st.after .ssRaw (.ok (.rawSubsystem 16))) ∧
    exec (.ssRaw .reserved17) st = .next (st.after .ssRaw (.ok (.rawSubsystem 17))) ∧
    exec (.ssRaw .reserved18) st = .next (st.after .ssRaw (.ok (.rawSubsystem 18))) ∧
    exec (.ssRaw .reserved19) st = .next (st.after .ssRaw (.ok (.rawSubsystem 19))) ∧
    exec (.ssRaw .reserved20) st = .next (st.after .ssRaw (.ok (.rawSubsystem 20))) ∧
    exec (.ssRaw .reserved21) st = .next (st.after .ssRaw (.ok (.rawSubsystem 21))) ∧
    exec (.ssRaw .reserved22) st = .next (st.after .ssRaw (.ok (.rawSubsystem 22))) ∧
    exec (.ssRaw .reserved23) st = .next (st.after .ssRaw (.ok (.rawSubsystem 23))) ∧
    exec (.ssRaw .reserved24) st = .next (st.after .ssRaw (.ok (.rawSubsystem 24))) ∧
    exec (.ssRaw .reserved25) st = .next (st.after .ssRaw (.ok (.rawSubsystem 25))) ∧
    exec (.ssRaw .reserved26) st = .next (st.after .ssRaw (.ok (.rawSubsystem 26))) ∧
    exec (.ssRaw .reserved27) st = .next (st.after .ssRaw (.ok (.rawSubsystem 27))) ∧
    exec (.ssRaw .reserved28) st = .next (st.after .ssRaw (.ok (.rawSubsystem 28))) ∧
    exec (.ssRaw .reserved29) st = .next (st.after .ssRaw (.ok (.rawSubsystem 29))) ∧
    exec (.ssRaw .reserved30) st = .next (st.after .ssRaw (.ok (.rawSubsystem 30))) ∧
    exec (.ssRaw .reserved31) st = .next (st.after .ssRaw (.ok (.rawSubsystem 31)))

/-- SS_FROM_RAW gives the tag whose raw value is n, or OUT_OF_RANGE from 32 on: no wrap, no clamp. Derived from
40_enumerations.md section SS_FROM_RAW, 92_eei_decisions.md D5. The 8-bit input is the spec's decision D5. -/
def Obligations.SsFromRawGivesTheTagOrOutOfRange : Prop :=
  ∀ (n : RawByte) (st : State),
    (n.toNat ≤ 31 → ∃ s : Subsystem, s.raw.toNat = n.toNat ∧
      exec (.ssFromRaw n) st = .next (st.after .ssFromRaw (.ok (.subsystem s)))) ∧
    (32 ≤ n.toNat →
      exec (.ssFromRaw n) st = .next (st.after .ssFromRaw (.error .outOfRangeConstruction)))

/-- For both enumerations the raw value function and the constructor are inverse to each other. States R84. -/
def Obligations.EnumerationsAndRawValuesAreInverse : Prop :=
  (∀ n : BitVec 3, (CommandType.ofRaw n).raw = n) ∧
    (∀ t : CommandType, CommandType.ofRaw t.raw = t) ∧
    (∀ n : BitVec 5, (Subsystem.ofRaw n).raw = n) ∧
    (∀ s : Subsystem, Subsystem.ofRaw s.raw = s) ∧
    Function.Injective CommandType.raw ∧ Function.Injective Subsystem.raw

/-- PBF_GET_TYPE reads bits [7:5] of the header as a tag, status OK. States R103. -/
def Obligations.PbfGetTypeReadsBits7To5 : Prop :=
  ∀ (h : CommandHeader) (st : State), ∃ t : CommandType, t.raw.toNat = h.toNat / 32 % 8 ∧
    exec (.pbfGetType h) st = .next (st.after .pbfGetType (.ok (.type t)))

/-- PBF_GET_SUBSYS reads bits [4:0] of the header as a tag, status OK. States R104. -/
def Obligations.PbfGetSubsysReadsBits4To0 : Prop :=
  ∀ (h : CommandHeader) (st : State), ∃ s : Subsystem, s.raw.toNat = h.toNat % 32 ∧
    exec (.pbfGetSubsys h) st = .next (st.after .pbfGetSubsys (.ok (.subsystem s)))

/-- PBF_GET_ID reads bits [15:8] of the header, status OK, and all 256 results occur. States R105. -/
def Obligations.PbfGetIdReadsBits15To8 : Prop :=
  (∀ (h : CommandHeader) (st : State), ∃ id : CommandId, id.toNat = h.toNat / 256 ∧
      exec (.pbfGetId h) st = .next (st.after .pbfGetId (.ok (.commandId id)))) ∧
    (∀ (id : CommandId) (st : State), ∃ h : CommandHeader,
      exec (.pbfGetId h) st = .next (st.after .pbfGetId (.ok (.commandId id))))

/-- ENCODE_HEADER gives the word {id, type, subsystem} for every triple, status OK. States R115. -/
def Obligations.EncodeHeaderPacksTheThreeFields : Prop :=
  ∀ (t : CommandType) (s : Subsystem) (id : CommandId) (st : State), ∃ w : HeaderWord,
    exec (.encodeHeader t s id) st = .next (st.after .encodeHeader (.ok (.headerWord w))) ∧
    w = id ++ t.raw ++ s.raw ∧
    w = (id.setWidth 16 <<< 8) ||| (t.raw.setWidth 16 <<< 5) ||| s.raw.setWidth 16 ∧
    w = (id.setWidth 16 <<< 8) ^^^ (t.raw.setWidth 16 <<< 5) ^^^ s.raw.setWidth 16 ∧
    w.toNat = id.toNat * 256 + t.raw.toNat * 32 + s.raw.toNat ∧
    bytesFromWord w = (t.raw ++ s.raw, id)

/-- Decoding an encoded triple gives back exactly that triple, status OK. States R117. -/
def Obligations.DecodeHeaderUndoesEncodeHeader : Prop :=
  ∀ (t : CommandType) (s : Subsystem) (id : CommandId) (st : State),
    exec (.decodeHeader (encodeHeader t s id)) st =
      .next (st.after .decodeHeader (.ok (.fields t s id)))

/-- ENCODE_HEADER maps the triples one to one onto all 16-bit words. Derived from 42_command_header_encoder.md section
Laws of the encoder. -/
def Obligations.EncodeHeaderIsABijection : Prop :=
  Function.Bijective
    (fun x : CommandType × Subsystem × CommandId => encodeHeader x.1 x.2.1 x.2.2)

/-- Changing one input of ENCODE_HEADER changes only the bits of that field. Derived from 42_command_header_encoder.md
section Laws of the encoder. -/
def Obligations.EncodeHeaderFieldsAreIndependent : Prop :=
  ∀ (t t' : CommandType) (s s' : Subsystem) (id id' : CommandId),
    encodeHeader t s id &&& 0x00FF#16 = encodeHeader t s id' &&& 0x00FF#16 ∧
    encodeHeader t s id &&& 0xFF1F#16 = encodeHeader t' s id &&& 0xFF1F#16 ∧
    encodeHeader t s id &&& 0xFFE0#16 = encodeHeader t s' id &&& 0xFFE0#16

/-- Reencoding a header with another subsystem replaces that field and no other bit. Derived from
41_packed_bitfield_accessor.md section 3, 92_eei_decisions.md D16. -/
def Obligations.ReplacingTheSubsystemByReencoding : Prop :=
  ∀ (h : CommandHeader) (s2 : Subsystem),
    pbfGetSubsys (encodeHeader (pbfGetType h) s2 (pbfGetId h)) = s2 ∧
    encodeHeader (pbfGetType h) s2 (pbfGetId h) &&& 0xFFE0#16 = h &&& 0xFFE0#16

/-- VIEW_FIRST_BYTE gives the low byte of any word, status OK. Derived from 43_header_view_decoder.md section 2,
92_eei_decisions.md D28. That the first byte is the low one is the spec's decision D28. -/
def Obligations.ViewFirstByteIsTheLowByte : Prop :=
  ∀ (w : HeaderWord) (st : State), ∃ fb : FirstByte, fb.toNat = w.toNat % 256 ∧
    exec (.viewFirstByte w) st = .next (st.after .viewFirstByte (.ok (.firstByte fb)))

/-- VIEW_TYPE gives the tag of bits [7:5] of any word, status OK. Derived from 43_header_view_decoder.md section 2,
92_eei_decisions.md D8. That this accessor exists is the spec's decision D8. -/
def Obligations.ViewTypeReadsBits7To5 : Prop :=
  ∀ (w : HeaderWord) (st : State), ∃ t : CommandType, t.raw.toNat = w.toNat / 32 % 8 ∧
    exec (.viewType w) st = .next (st.after .viewType (.ok (.type t)))

/-- VIEW_SUBSYS gives the tag of bits [4:0] of any word, status OK. Derived from 43_header_view_decoder.md section 2,
43_header_view_decoder.md section 4. -/
def Obligations.ViewSubsysReadsBits4To0 : Prop :=
  ∀ (w : HeaderWord) (st : State), ∃ s : Subsystem, s.raw.toNat = w.toNat % 32 ∧
    exec (.viewSubsys w) st = .next (st.after .viewSubsys (.ok (.subsystem s)))

/-- VIEW_CMD_ID gives the high byte of any word, status OK, and all 256 results occur. States R129. -/
def Obligations.ViewCmdIdIsTheHighByte : Prop :=
  (∀ (w : HeaderWord) (st : State), ∃ id : CommandId, id.toNat = w.toNat / 256 ∧
      exec (.viewCmdId w) st = .next (st.after .viewCmdId (.ok (.commandId id)))) ∧
    (∀ (id : CommandId) (st : State), ∃ w : HeaderWord,
      exec (.viewCmdId w) st = .next (st.after .viewCmdId (.ok (.commandId id))))

/-- DECODE_HEADER gives type, subsystem and id of any word, status OK. Derived from 43_header_view_decoder.md section 3,
43_header_view_decoder.md section 4. -/
def Obligations.DecodeHeaderGivesTheThreeFields : Prop :=
  ∀ (w : HeaderWord) (st : State), ∃ (t : CommandType) (s : Subsystem) (id : CommandId),
    t.raw.toNat = w.toNat / 32 % 8 ∧ s.raw.toNat = w.toNat % 32 ∧ id.toNat = w.toNat / 256 ∧
    exec (.decodeHeader w) st = .next (st.after .decodeHeader (.ok (.fields t s id)))

/-- DECODE_HEADER on the absolute words of the spec: 0x0000, 0xFFFF, 0x2025 and 0x2005. Derived from
43_header_view_decoder.md section 3, 90_conflicts.md C1, 95_test_vectors.md section 1. The words 0x2025 and 0x2005
are the spec's resolution C1 (decision D23). -/
def Obligations.DecodeHeaderOnTheSpecsWords : Prop :=
  ∀ st : State,
    exec (.decodeHeader 0x0000) st = .next (st.after .decodeHeader (.ok (.fields .poll .rpcError 0x00))) ∧
    exec (.decodeHeader 0xFFFF) st = .next (st.after .decodeHeader (.ok (.fields .reserved7 .reserved31 0xFF))) ∧
    exec (.decodeHeader 0x2025) st = .next (st.after .decodeHeader (.ok (.fields .syncRequest .zdo 0x20))) ∧
    exec (.decodeHeader 0x2005) st = .next (st.after .decodeHeader (.ok (.fields .poll .zdo 0x20)))

/-- Every 16-bit word decodes, and encoding its three fields gives the word back. States R132. -/
def Obligations.EncodeHeaderUndoesDecodeHeader : Prop :=
  ∀ w : HeaderWord, ∃ (t : CommandType) (s : Subsystem) (id : CommandId),
    decodeHeader w = .ok (t, s, id) ∧ encodeHeader t s id = w

/-- HeaderView, field reads and DECODE_HEADER agree on every word. Derived from 43_header_view_decoder.md section 4. -/
def Obligations.ThreeWaysToReadAFieldAgree : Prop :=
  ∀ w : HeaderWord,
    viewType w = .ok (pbfGetType w) ∧ viewSubsys w = .ok (pbfGetSubsys w) ∧
    viewCmdId w = .ok (pbfGetId w) ∧
    decodeHeader w = .ok (pbfGetType w, pbfGetSubsys w, pbfGetId w) ∧
    viewFirstByte w = .ok ((pbfGetType w).raw ++ (pbfGetSubsys w).raw)

/-- Header words and triples (type, subsystem, id) correspond one to one under decoding. States R64. -/
def Obligations.HeaderWordsAndTriplesCorrespond : Prop :=
  (∀ w : HeaderWord, ∃! x : CommandType × Subsystem × CommandId, decodeHeader w = .ok x) ∧
    (∀ x : CommandType × Subsystem × CommandId, ∃! w : HeaderWord, decodeHeader w = .ok x)

/-- No instruction ever returns NumericConversionError. Derived from 43_header_view_decoder.md section 4,
92_eei_decisions.md D7. -/
def Obligations.NumericConversionErrorNeverReturned : Prop :=
  ∀ (i : Instr) (s t : State), exec i s = .next t →
    ∃ r : Result s.capacity, t = { s with results := s.results ++ [r] } ∧ r.outcome ≠ .error .numericConversion

/-- FRAME_NEW with a length within both bounds gives the Frame with its data bytes, status OK. Derived from
44_frame_and_srsp.md section 1, 20_memory.md section 4, 92_eei_decisions.md D15, 92_eei_decisions.md D32. Log 8:
payloads that are not N bytes long. -/
def Obligations.FrameNewBuildsTheFrame : Prop :=
  ∀ (length : Length) (h : CommandHeader) (payload : List Byte) (st : State),
    length.toNat ≤ 250 → length.toNat ≤ st.capacity → length.toNat ≤ payload.length →
    ∃ f : Frame st.capacity, f.length = length ∧ f.header = h ∧ f.data = payload.take length.toNat ∧
      exec (.frameNew length h payload) st = .next (st.after .frameNew (.ok (.frame f)))

/-- FRAME_NEW with a length above 250 or above the capacity gives OUT_OF_RANGE. Derived from 44_frame_and_srsp.md
section 1, 60_exceptions.md section 3, 92_eei_decisions.md D12, 92_eei_decisions.md D14. -/
def Obligations.FrameNewRejectsLengthsOverEitherBound : Prop :=
  ∀ (length : Length) (h : CommandHeader) (payload : List Byte) (st : State),
    250 < length.toNat ∨ st.capacity < length.toNat →
    exec (.frameNew length h payload) st =
      .next (st.after .frameNew (.error .outOfRangeConstruction))

/-- FRAME_NEW within both bounds but handed fewer payload bytes than the length stops (model choice, log 8). Derived
from 70_reset_and_hazards.md section 1, 92_eei_decisions.md D19. The model's choice, log 8. -/
def Obligations.FrameNewStopsOnUndrivenData : Prop :=
  ∀ (length : Length) (h : CommandHeader) (payload : List Byte) (st : State),
    length.toNat ≤ 250 → length.toNat ≤ st.capacity → payload.length < length.toNat →
    exec (.frameNew length h payload) st = .fault .payloadNotDriven

/-- Two payloads of N bytes that agree on the first length bytes give the same outcome. Derived from 20_memory.md
section 4, 93_implementation_defined.md U1, 92_eei_decisions.md D15. -/
def Obligations.FramePaddingIsUnobservable : Prop :=
  ∀ (length : Length) (h : CommandHeader) (p q : List Byte) (st : State),
    p.length = st.capacity → q.length = st.capacity → (∀ k < length.toNat, p[k]? = q[k]?) →
    exec (.frameNew length h p) st = exec (.frameNew length h q) st

/-- Every Frame is within 250 and N, holds length data bytes, and is what FRAME_NEW gives for some payload of N bytes.
Derived from 44_frame_and_srsp.md section 1, 10_state.md section 2, 20_memory.md section 4, 92_eei_decisions.md D13.
That a Frame keeps exactly length data bytes is the model's form, log 9. -/
def Obligations.EveryFrameIsAResultOfFrameNew : Prop :=
  ∀ (st : State) (f : Frame st.capacity),
    f.length.toNat ≤ 250 ∧ f.length.toNat ≤ st.capacity ∧ f.data.length = f.length.toNat ∧
    ∃ payload : List Byte, payload.length = st.capacity ∧
      exec (.frameNew f.length f.header payload) st = .next (st.after .frameNew (.ok (.frame f)))

/-- SRSP_RAW gives each of the 5 codes its byte 0 to 4, status OK. Derived from 44_frame_and_srsp.md section 2,
92_eei_decisions.md D24. That the code is carried as its byte is the spec's decision D24. -/
def Obligations.SrspRawGivesTheByte : Prop :=
  ∀ st : State,
    exec (.srspRaw .ok) st = .next (st.after .srspRaw (.ok (.srspByte 0))) ∧
    exec (.srspRaw .invalidSubsystem) st = .next (st.after .srspRaw (.ok (.srspByte 1))) ∧
    exec (.srspRaw .invalidCommandId) st = .next (st.after .srspRaw (.ok (.srspByte 2))) ∧
    exec (.srspRaw .invalidParameter) st = .next (st.after .srspRaw (.ok (.srspByte 3))) ∧
    exec (.srspRaw .invalidLength) st = .next (st.after .srspRaw (.ok (.srspByte 4)))

/-- SRSP_FROM_RAW gives the code whose byte is b, or DECODE_ERR from 5 on. Derived from 44_frame_and_srsp.md section 2,
92_eei_decisions.md D11, 90_conflicts.md C3. The kind of the error is the spec's decision D11. -/
def Obligations.SrspFromRawGivesTheCodeOrDecodeError : Prop :=
  ∀ (b : RawByte) (st : State),
    (b.toNat ≤ 4 → ∃ e : SRSPErrorCode, e.raw = b ∧
      exec (.srspFromRaw b) st = .next (st.after .srspFromRaw (.ok (.srspCode e)))) ∧
    (5 ≤ b.toNat → exec (.srspFromRaw b) st = .next (st.after .srspFromRaw (.error .decodeError)))

/-- The 5 SRSP codes and the bytes 0 to 4 correspond one to one; there is no sixth code. States R151. -/
def Obligations.SrspCodesAndBytesAreInverse : Prop :=
  (∀ b : Byte, b.toNat ≤ 4 → ∃ e, srspFromRaw b = .ok e ∧ srspRaw e = b) ∧
    (∀ e, srspFromRaw (srspRaw e) = .ok e) ∧ Function.Injective srspRaw ∧
    (∀ e : SRSPErrorCode, e ∈ [.ok, .invalidSubsystem, .invalidCommandId, .invalidParameter, .invalidLength])

/-- A header word of each of the 8 type rows decodes to that row's tag and its other fields, status OK. Derived from
30_encoding.md section 2, 30_encoding.md section 3, 30_encoding.md section 6. The model's reading of a value row,
log 4. -/
def Obligations.HeaderWordsOfEachTypeRowDecode : Prop :=
  ∀ (id : CommandId) (s : Subsystem) (st : State),
    exec (.poll id s) st = .next (st.after .decodeHeader (.ok (.fields .poll s id))) ∧
    exec (.syncRequest id s) st = .next (st.after .decodeHeader (.ok (.fields .syncRequest s id))) ∧
    exec (.asyncRequest id s) st = .next (st.after .decodeHeader (.ok (.fields .asyncRequest s id))) ∧
    exec (.syncResponse id s) st = .next (st.after .decodeHeader (.ok (.fields .syncResponse s id))) ∧
    exec (.reserved4 id s) st = .next (st.after .decodeHeader (.ok (.fields .reserved4 s id))) ∧
    exec (.reserved5 id s) st = .next (st.after .decodeHeader (.ok (.fields .reserved5 s id))) ∧
    exec (.reserved6 id s) st = .next (st.after .decodeHeader (.ok (.fields .reserved6 s id))) ∧
    exec (.reserved7 id s) st = .next (st.after .decodeHeader (.ok (.fields .reserved7 s id)))

/-- A header word of each of the 32 subsystem rows decodes to that row's tag and its other fields, status OK. Derived
from 30_encoding.md section 2, 30_encoding.md section 3, 30_encoding.md section 6. The model's reading of a value
row, log 4. -/
def Obligations.HeaderWordsOfEachSubsystemRowDecode : Prop :=
  ∀ (id : CommandId) (t : CommandType) (st : State),
    exec (.rpcError id t) st = .next (st.after .decodeHeader (.ok (.fields t .rpcError id))) ∧
    exec (.sys id t) st = .next (st.after .decodeHeader (.ok (.fields t .sys id))) ∧
    exec (.reserved2 id t) st = .next (st.after .decodeHeader (.ok (.fields t .reserved2 id))) ∧
    exec (.reserved3 id t) st = .next (st.after .decodeHeader (.ok (.fields t .reserved3 id))) ∧
    exec (.af id t) st = .next (st.after .decodeHeader (.ok (.fields t .af id))) ∧
    exec (.zdo id t) st = .next (st.after .decodeHeader (.ok (.fields t .zdo id))) ∧
    exec (.simpleApi id t) st = .next (st.after .decodeHeader (.ok (.fields t .simpleApi id))) ∧
    exec (.util id t) st = .next (st.after .decodeHeader (.ok (.fields t .util id))) ∧
    exec (.reserved8 id t) st = .next (st.after .decodeHeader (.ok (.fields t .reserved8 id))) ∧
    exec (.app id t) st = .next (st.after .decodeHeader (.ok (.fields t .app id))) ∧
    exec (.reserved10 id t) st = .next (st.after .decodeHeader (.ok (.fields t .reserved10 id))) ∧
    exec (.reserved11 id t) st = .next (st.after .decodeHeader (.ok (.fields t .reserved11 id))) ∧
    exec (.reserved12 id t) st = .next (st.after .decodeHeader (.ok (.fields t .reserved12 id))) ∧
    exec (.reserved13 id t) st = .next (st.after .decodeHeader (.ok (.fields t .reserved13 id))) ∧
    exec (.reserved14 id t) st = .next (st.after .decodeHeader (.ok (.fields t .reserved14 id))) ∧
    exec (.reserved15 id t) st = .next (st.after .decodeHeader (.ok (.fields t .reserved15 id))) ∧
    exec (.reserved16 id t) st = .next (st.after .decodeHeader (.ok (.fields t .reserved16 id))) ∧
    exec (.reserved17 id t) st = .next (st.after .decodeHeader (.ok (.fields t .reserved17 id))) ∧
    exec (.reserved18 id t) st = .next (st.after .decodeHeader (.ok (.fields t .reserved18 id))) ∧
    exec (.reserved19 id t) st = .next (st.after .decodeHeader (.ok (.fields t .reserved19 id))) ∧
    exec (.reserved20 id t) st = .next (st.after .decodeHeader (.ok (.fields t .reserved20 id))) ∧
    exec (.reserved21 id t) st = .next (st.after .decodeHeader (.ok (.fields t .reserved21 id))) ∧
    exec (.reserved22 id t) st = .next (st.after .decodeHeader (.ok (.fields t .reserved22 id))) ∧
    exec (.reserved23 id t) st = .next (st.after .decodeHeader (.ok (.fields t .reserved23 id))) ∧
    exec (.reserved24 id t) st = .next (st.after .decodeHeader (.ok (.fields t .reserved24 id))) ∧
    exec (.reserved25 id t) st = .next (st.after .decodeHeader (.ok (.fields t .reserved25 id))) ∧
    exec (.reserved26 id t) st = .next (st.after .decodeHeader (.ok (.fields t .reserved26 id))) ∧
    exec (.reserved27 id t) st = .next (st.after .decodeHeader (.ok (.fields t .reserved27 id))) ∧
    exec (.reserved28 id t) st = .next (st.after .decodeHeader (.ok (.fields t .reserved28 id))) ∧
    exec (.reserved29 id t) st = .next (st.after .decodeHeader (.ok (.fields t .reserved29 id))) ∧
    exec (.reserved30 id t) st = .next (st.after .decodeHeader (.ok (.fields t .reserved30 id))) ∧
    exec (.reserved31 id t) st = .next (st.after .decodeHeader (.ok (.fields t .reserved31 id)))

/-- The byte of each of the 5 SRSP rows is read to that row's code, status OK. Derived from 30_encoding.md section 2,
44_frame_and_srsp.md section 2. The model's reading of a value row, log 4. -/
def Obligations.SrspRowBytesDecode : Prop :=
  ∀ st : State,
    exec .ok st = .next (st.after .srspFromRaw (.ok (.srspCode .ok))) ∧
    exec .invalidSubsystem st = .next (st.after .srspFromRaw (.ok (.srspCode .invalidSubsystem))) ∧
    exec .invalidCommandId st = .next (st.after .srspFromRaw (.ok (.srspCode .invalidCommandId))) ∧
    exec .invalidParameter st = .next (st.after .srspFromRaw (.ok (.srspCode .invalidParameter))) ∧
    exec .invalidLength st = .next (st.after .srspFromRaw (.ok (.srspCode .invalidLength)))

/-- A header word read through either header table steps exactly as DECODE_HEADER on that word. Derived from
30_encoding.md section 3, 30_encoding.md section 6, 20_memory.md section 2. The model's reading of a value row, log
4 and log 6. -/
def Obligations.EveryHeaderLineIsDecodedAsDecodeHeader : Prop :=
  ∀ (b0 b1 : Byte) (rest : List Line) (s : State),
    (s.pending = ⟨.headerType, [b0, b1]⟩ :: rest →
      step s = exec (.decodeHeader (wordFromBytes b0 b1)) { s with pending := rest }) ∧
    (s.pending = ⟨.headerSubsystem, [b0, b1]⟩ :: rest →
      step s = exec (.decodeHeader (wordFromBytes b0 b1)) { s with pending := rest })

/-- A line that decodes, but for SRSP bytes 5 to 255, is selected by the table row of the instruction it decodes to.
Derived from 30_encoding.md section 5, 30_encoding.md section 6, 30_encoding.md section 2. That an SRSP byte of 5 or
more, which no row selects, is read as SRSP_FROM_RAW's input is the model's reading, log 7; the layout of an
operation's line is log 5, the group of rows that a line names log 6. -/
def Obligations.DecodedLineMatchesItsTableRow : Prop :=
  ∀ (l : Line) (i : Instr), decode l = .ok i →
    (rowOf i).selects l = true ∨
    (∃ b : Byte, 5 ≤ b.toNat ∧ l = ⟨.srspErrorCode, [b]⟩ ∧ i = .srspFromRaw b)

/-- The status is 0 on success and 1, 2, 3 for the three error kinds. Derived from 60_exceptions.md section 1,
92_eei_decisions.md D3. The codes are the spec's decision D3. -/
def Obligations.StatusCodes : Prop :=
  ∀ (capacity : Nat) (op : Operation) (v : Value capacity),
    (Result.mk op (.ok v)).status = 0b00 ∧
    (Result.mk (capacity := capacity) op (.error .numericConversion)).status = 0b01 ∧
    (Result.mk (capacity := capacity) op (.error .outOfRangeConstruction)).status = 0b10 ∧
    (Result.mk (capacity := capacity) op (.error .decodeError)).status = 0b11

/-- An instruction returns an error exactly on the inputs of the complete list, and the kind listed there. Derived from
60_exceptions.md section 1, 44_frame_and_srsp.md section 1. The list is that of the 16 operations. For a value row
(not one of the 16 operations) that no error occurs is the model's reading, log 4; FRAME_NEW's stop on undriven data
is no next state, log 8. -/
def Obligations.ErrorsAreExactlyThoseOfTheList : Prop :=
  ∀ (i : Instr) (s t : State), exec i s = .next t →
    ∃ r : Result s.capacity, t = { s with results := s.results ++ [r] } ∧
      ∀ k : ErrorKind, r.outcome = .error k ↔ i.errorKind s.capacity = some k

/-- An evaluation adds one result on its own operation's outputs and changes nothing else. Derived from 60_exceptions.md
section 2, 10_state.md section 1, 10_state.md section 3. For value rows the model's reading, log 4. -/
def Obligations.ResultAppearsOnItsOwnOutputsOnly : Prop :=
  ∀ (i : Instr) (s t : State), exec i s = .next t →
    ∃ o : Except ErrorKind (Value s.capacity), t = { s with results := s.results ++ [⟨i.outputGroup, o⟩] }

/-- Evaluating the same inputs again gives the same result, value or error, and changes nothing. States R41. The results
list is the model's history, log 1. -/
def Obligations.EvaluatingAgainGivesTheSameResult : Prop :=
  ∀ (i : Instr) (s t : State), exec i s = .next t →
    ∃ (r : Result s.capacity) (u : State), exec i t = .next u ∧
      t = { s with results := s.results ++ [r] } ∧ u = { s with results := s.results ++ [r, r] }

/-- The first transmitted header byte is the low byte of the word, the second the high byte. States R31. -/
def Obligations.HeaderWordIsLowByteFirst : Prop :=
  (∀ b0 b1 : Byte,
      wordFromBytes b0 b1 = b1 ++ b0 ∧
      wordFromBytes b0 b1 = (b1.setWidth 16 <<< 8) ||| b0.setWidth 16 ∧
      (wordFromBytes b0 b1).toNat = b1.toNat * 256 + b0.toNat ∧
      bytesFromWord (wordFromBytes b0 b1) = (b0, b1)) ∧
    (∀ w : HeaderWord,
      (bytesFromWord w).1.toNat = w.toNat % 256 ∧ (bytesFromWord w).2.toNat = w.toNat / 256 ∧
      wordFromBytes (bytesFromWord w).1 (bytesFromWord w).2 = w)

/-- A Frame on the wire: length, {type, subsystem}, id, then the data bytes; 3 + length bytes, at most 253. Derived from
20_memory.md section 3, 44_frame_and_srsp.md section 1. -/
def Obligations.FrameWireLayout : Prop :=
  ∀ (capacity : Nat) (f : Frame capacity),
    f.wireBytes.length = 3 + f.length.toNat ∧ 3 ≤ f.wireBytes.length ∧ f.wireBytes.length ≤ 253 ∧
    f.wireBytes[0]? = some f.length ∧
    f.wireBytes[1]? = some ((pbfGetType f.header).raw ++ (pbfGetSubsys f.header).raw) ∧
    f.wireBytes[2]? = some (pbfGetId f.header) ∧
    ∀ k < f.length.toNat, f.wireBytes[3 + k]? = f.data[k]? ∧ f.data[k]?.isSome

/-- extract of any range is shift then mask, mask then shift, and a quotient and remainder. States R101. -/
def Obligations.ExtractIsShiftThenMaskAndMaskThenShift : Prop :=
  ∀ (w w' : HeaderWord) (hi lo : Nat), lo ≤ hi → hi ≤ 15 →
    (extract w hi lo).setWidth 16 = (w >>> lo) &&& BitVec.ofNat 16 (2 ^ (hi - lo + 1) - 1) ∧
    (extract w hi lo).setWidth 16 = (w &&& BitVec.ofNat 16 ((2 ^ (hi - lo + 1) - 1) * 2 ^ lo)) >>> lo ∧
    (extract w hi lo).toNat = w.toNat / 2 ^ lo % 2 ^ (hi - lo + 1) ∧
    ((∀ k, lo ≤ k → k ≤ hi → w.getLsbD k = w'.getLsbD k) → extract w hi lo = extract w' hi lo)

/-- place of any range is the value times 2^lo, and every bit outside the range is 0. States R102. -/
def Obligations.PlaceShiftsWithoutLoss : Prop :=
  ∀ (hi lo : Nat) (v : BitVec (hi - lo + 1)), lo ≤ hi → hi ≤ 15 →
    place hi lo v = v.setWidth 16 <<< lo ∧ (place hi lo v).toNat = v.toNat * 2 ^ lo ∧
    ∀ k, k < lo ∨ hi < k → (place hi lo v).getLsbD k = false

/-- The three fields read back what was placed, do not overlap, and cover the word. Derived from
41_packed_bitfield_accessor.md section 1, 30_encoding.md section 1. -/
def Obligations.ExtractAndPlaceLaws : Prop :=
  ∀ (a : BitVec 8) (b : BitVec 3) (c : BitVec 5) (w : HeaderWord),
    extract (place 15 8 a) 15 8 = a ∧ extract (place 7 5 b) 7 5 = b ∧ extract (place 4 0 c) 4 0 = c ∧
    extract (place 15 8 a) 7 5 = 0 ∧ extract (place 15 8 a) 4 0 = 0 ∧
    extract (place 7 5 b) 15 8 = 0 ∧ extract (place 7 5 b) 4 0 = 0 ∧
    extract (place 4 0 c) 15 8 = 0 ∧ extract (place 4 0 c) 7 5 = 0 ∧
    place 15 8 (extract w 15 8) ||| place 7 5 (extract w 7 5) ||| place 4 0 (extract w 4 0) = w

/-- narrow gives the same number in fewer bits, or NumericConversionError with status 1. Derived from
43_header_view_decoder.md section 1, 60_exceptions.md section 1. -/
def Obligations.NarrowNeverTruncates : Prop :=
  ∀ (N m : Nat) (v : BitVec m),
    (v.toNat < 2 ^ N → ∃ u : BitVec N, narrow N v = .ok u ∧ u.toNat = v.toNat) ∧
    (2 ^ N ≤ v.toNat → narrow N v = .error .numericConversion ∧ outcomeStatus (narrow N v) = 0b01)

/-- A step evaluates the instruction that the next line decodes to, at the state without that line. Derived from
10_state.md section 1, 70_reset_and_hazards.md section 5, 95_test_vectors.md section 3. The list of lines is the
model's form of a run, log 1. -/
def Obligations.StepRunsTheDecodedInstruction : Prop :=
  ∀ (s : State) (l : Line) (rest : List Line) (i : Instr),
    s.pending = l :: rest → decode l = .ok i → step s = exec i { s with pending := rest }

/-- A step refuses by name a line that does not decode (model choice, log 7). Derived from 10_state.md section 2,
93_implementation_defined.md U4, 93_implementation_defined.md U6. The layout of a line is the model's, log 5 and log
7; a FRAME_NEW line whose payload is not N bytes long decodes, log 8. -/
def Obligations.StepRefusesLinesThatDoNotDecode : Prop :=
  ∀ (s : State) (l : Line) (rest : List Line) (d : LineDefect),
    s.pending = l :: rest → decode l = .error d → step s = .refused (.notPresentable d)

/-- Decode takes operation numbers 0 to 15 and tags up to 7, 31 and 4, and rejects by name those above (model choice,
log 7). Derived from 10_state.md section 2, 30_encoding.md section 5, 93_implementation_defined.md U4,
93_implementation_defined.md U6. The layout of a line is the model's, log 5, and so is the rejection, log 7. -/
def Obligations.DecodeRejectsTagsOutsideTheirPorts : Prop :=
  (∀ (n : Byte) (operands : List Byte),
      (n.toNat ≤ 15 → ∃ op : Operation, op.number.toNat = n.toNat ∧
        decode ⟨.operation, n :: operands⟩ = decodeOperands operands op) ∧
      (16 ≤ n.toNat → decode ⟨.operation, n :: operands⟩ = .error .operationNumber)) ∧
    (∀ b : Byte,
      (b.toNat ≤ 7 → ∃ t : CommandType, t.raw.toNat = b.toNat ∧ decode ⟨.operation, [0x00, b]⟩ = .ok (.ctRaw t)) ∧
      (8 ≤ b.toNat → decode ⟨.operation, [0x00, b]⟩ = .error .operandOutsidePort)) ∧
    (∀ b : Byte,
      (b.toNat ≤ 31 → ∃ s : Subsystem, s.raw.toNat = b.toNat ∧ decode ⟨.operation, [0x02, b]⟩ = .ok (.ssRaw s)) ∧
      (32 ≤ b.toNat → decode ⟨.operation, [0x02, b]⟩ = .error .operandOutsidePort)) ∧
    (∀ t s id : Byte,
      (t.toNat ≤ 7 → s.toNat ≤ 31 → ∃ (t' : CommandType) (s' : Subsystem),
        t'.raw.toNat = t.toNat ∧ s'.raw.toNat = s.toNat ∧
        decode ⟨.operation, [0x07, t, s, id]⟩ = .ok (.encodeHeader t' s' id)) ∧
      (8 ≤ t.toNat ∨ 32 ≤ s.toNat → decode ⟨.operation, [0x07, t, s, id]⟩ = .error .operandOutsidePort)) ∧
    (∀ b : Byte,
      (b.toNat ≤ 4 → ∃ e : SRSPErrorCode, e.raw = b ∧ decode ⟨.operation, [0x0E, b]⟩ = .ok (.srspRaw e)) ∧
      (5 ≤ b.toNat → decode ⟨.operation, [0x0E, b]⟩ = .error .operandOutsidePort))

/-- Decode rejects by name a line with fewer or more bytes than its inputs take (model choice, log 5 and log 7). Derived
from 10_state.md section 3, 30_encoding.md section 4, 93_implementation_defined.md U6. The layout of a line is the
model's, log 5 and log 6, and so is the rejection, log 7. -/
def Obligations.DecodeRejectsLinesOfAnotherLength : Prop :=
  decode ⟨.operation, []⟩ = .error .empty ∧
    (∀ op ∈ [Operation.ctRaw, .ctFromRaw, .ssRaw, .ssFromRaw, .srspRaw, .srspFromRaw], ∀ operands : List Byte,
      operands.length ≠ 1 → decode (operationLine op operands) = .error .operandCount) ∧
    (∀ op ∈ [Operation.pbfGetType, .pbfGetSubsys, .pbfGetId, .viewFirstByte, .viewType, .viewSubsys, .viewCmdId,
        .decodeHeader], ∀ operands : List Byte,
      operands.length ≠ 2 → decode (operationLine op operands) = .error .operandCount) ∧
    (∀ operands : List Byte,
      operands.length ≠ 3 → decode (operationLine .encodeHeader operands) = .error .operandCount) ∧
    (∀ operands : List Byte,
      operands.length < 3 → decode (operationLine .frameNew operands) = .error .operandCount) ∧
    (∀ space ∈ [Space.headerType, .headerSubsystem], ∀ bytes : List Byte,
      bytes.length ≠ 2 → decode ⟨space, bytes⟩ = .error .operandCount) ∧
    (∀ bytes : List Byte, bytes.length ≠ 1 → decode ⟨.srspErrorCode, bytes⟩ = .error .operandCount) ∧
    (∀ op ∈ [Operation.ctFromRaw, .ssFromRaw, .srspFromRaw], ∀ operands : List Byte,
      operands.length = 1 → ∃ i : Instr, decode (operationLine op operands) = .ok i) ∧
    (∀ op ∈ [Operation.pbfGetType, .pbfGetSubsys, .pbfGetId, .viewFirstByte, .viewType, .viewSubsys, .viewCmdId,
        .decodeHeader], ∀ operands : List Byte,
      operands.length = 2 → ∃ i : Instr, decode (operationLine op operands) = .ok i) ∧
    (∀ operands : List Byte, 3 ≤ operands.length → ∃ i : Instr, decode (operationLine .frameNew operands) = .ok i) ∧
    (∀ space ∈ [Space.headerType, .headerSubsystem], ∀ bytes : List Byte,
      bytes.length = 2 → ∃ i : Instr, decode ⟨space, bytes⟩ = .ok i) ∧
    (∀ bytes : List Byte, bytes.length = 1 → ∃ i : Instr, decode ⟨.srspErrorCode, bytes⟩ = .ok i)

/-- With no evaluation lined up, a step changes nothing (model choice, log 3). Derived from 10_state.md section 1,
60_exceptions.md section 4. The model's choice, log 3. -/
def Obligations.StepWithNothingLinedUpChangesNothing : Prop :=
  ∀ s : State, s.pending = [] → step s = .next s

/-- After reset nothing is lined up and nothing has been evaluated; the capacity is the open parameter (log 1, log 2).
Derived from 70_reset_and_hazards.md section 1, 10_state.md section 4, 92_eei_decisions.md D13. The fields are the
model's, log 1 and log 2. -/
def Obligations.ResetHoldsNothing : Prop :=
  State.reset.pending = [] ∧ State.reset.results = [] ∧ State.reset.capacity = Config.capacity

/-- The reset state satisfies the invariant that every step keeps. Derived from 70_reset_and_hazards.md section 1. -/
def Obligations.ResetIsLegal : Prop :=
  State.reset.legal = true

/-- Every step keeps: each result is one its operation can give, no NUM_CONV, every Frame within 250, N and its data.
Derived from 44_frame_and_srsp.md section 1, 60_exceptions.md section 1, 43_header_view_decoder.md section 4,
10_state.md section 3. -/
def Obligations.StepKeepsTheStateLegal : Prop :=
  ∀ s t : State, s.legal = true → step s = .next t → t.legal = true ∧ t.capacity = s.capacity ∧
    ∀ r ∈ t.results, ∀ f : Frame t.capacity, r.outcome = .ok (.frame f) →
      f.length.toNat ≤ 250 ∧ f.length.toNat ≤ s.capacity ∧ f.data.length = f.length.toNat

/-- As long as every pending line can be presented, a step answers a next state, and that stays so. Derived from
60_exceptions.md section 2, 70_reset_and_hazards.md section 4. -/
def Obligations.PresentableLinesNeverStopTheMachine : Prop :=
  ∀ s : State, s.presentable = true →
    ∃ t : State, step s = .next t ∧ t.presentable = true ∧ t.pending = s.pending.tail

/-- A run gives one result per line, in order, each a function of that line and N alone. Derived from 10_state.md
section 1, 20_memory.md section 6, 70_reset_and_hazards.md section 5, 60_exceptions.md section 2. A run as lists in
State is the model's form, log 1, and so is one evaluation a step, log 11. -/
def Obligations.RunIsTheListOfIndependentResults : Prop :=
  ∃ f : (capacity : Nat) → Line → Result capacity, ∀ s : State, s.presentable = true →
    Host.Core.run Sys2Proof.core s.pending.length s =
      .next (State.mk s.capacity [] (s.results ++ s.pending.map (f s.capacity)))

/-- Decoding the encoded line of any instruction gives that instruction back, every operand at every value. Derived from
30_encoding.md section 1, 30_encoding.md section 5, 30_encoding.md section 6. The layout of operands is the model's,
log 5. -/
def Obligations.DecodeUndoesEncode : Prop :=
  ∀ i : Instr, decode (encode i) = .ok i

/-- Encoding what a line decodes to gives that line back, but for the SRSP bytes 5 to 255, second spellings of
SRSP_FROM_RAW. Derived from 30_encoding.md section 4, 30_encoding.md section 5. That an SRSP byte of 5 or more is
read as SRSP_FROM_RAW's input, so that its line and the operation's line decode alike, is the model's reading, log
7; the layout of operands is log 5. -/
def Obligations.EncodeUndoesDecode : Prop :=
  ∀ (l : Line) (i : Instr), decode l = .ok i →
    encode i = l ∨ (∃ b : Byte, 5 ≤ b.toNat ∧ l = ⟨.srspErrorCode, [b]⟩ ∧ i = .srspFromRaw b)

/-- A few lines written out from the spec's tables decode to the instructions they stand for. Derived from
30_encoding.md section 2, 30_encoding.md section 5, 95_test_vectors.md section 3. The layout of operands is the
model's, log 5. -/
def Obligations.WrittenOutLinesDecode : Prop :=
  decode ⟨.operation, [0x07, 0x01, 0x05, 0x20]⟩ = .ok (.encodeHeader .syncRequest .zdo 0x20) ∧
    decode ⟨.operation, [0x01, 0x08]⟩ = .ok (.ctFromRaw 0x08) ∧
    decode ⟨.operation, [0x0C, 0x25, 0x20]⟩ = .ok (.decodeHeader 0x2025) ∧
    decode ⟨.headerType, [0x25, 0x20]⟩ = .ok (.syncRequest 0x20 .zdo) ∧
    decode ⟨.headerSubsystem, [0x25, 0x20]⟩ = .ok (.zdo 0x20 .syncRequest) ∧
    decode ⟨.srspErrorCode, [0x04]⟩ = .ok .invalidLength

/-- A table word put where the next step fetches runs as exactly the instruction it decodes to. Derived from
30_encoding.md section 6, 10_state.md section 1. Placing a word stands for the caller presenting it, log 3. -/
def Obligations.TableWordRunsAsTheNextStep : Prop :=
  ∀ (s : State) (nbits w : Nat) (i : Instr),
    s.capacity = Config.capacity → decodeTableWord nbits w = some i → step (s.withFetchWord nbits w) = exec i s
end

