-- ==== Sys2Proof/Laws/Operands.lean ====
section
/-! SUPPORT. The primitives, bit by bit and as numbers. -/

namespace Sys2Proof.Machine

theorem extract_getLsbD (w : HeaderWord) (hi lo i : Nat) :
    (extract w hi lo).getLsbD i = (decide (i < hi - lo + 1) && w.getLsbD (lo + i)) := by
  simp [extract]

theorem place_getLsbD (hi lo : Nat) (v : BitVec (hi - lo + 1)) (i : Nat) :
    (place hi lo v).getLsbD i = (decide (i < 16) && (!decide (i < lo) && v.getLsbD (i - lo))) := by
  simp only [place, BitVec.getLsbD_shiftLeft, BitVec.getLsbD_setWidth]
  by_cases h : i < 16
  · by_cases hl : i < lo
    · simp [h, hl]
    · simp [h, hl, Nat.lt_of_le_of_lt (Nat.sub_le i lo) h]
  · simp [h]

theorem toNat_extractType (w : HeaderWord) : (extractType w).toNat = w.toNat / 32 % 8 := by
  simp [extractType, extract, Nat.shiftRight_eq_div_pow]

theorem toNat_extractSubsys (w : HeaderWord) : (extractSubsys w).toNat = w.toNat % 32 := by
  simp [extractSubsys, extract]

theorem toNat_extractId (w : HeaderWord) : (extractId w).toNat = w.toNat / 256 := by
  have := w.isLt
  simp [extractId, extract, Nat.shiftRight_eq_div_pow]
  omega

/-- `narrow` returns the number in fewer bits, or raises. -/
theorem narrow_cases (N : Nat) {m : Nat} (v : BitVec m) :
    (v.toNat < 2 ^ N ∧ narrow N v = .ok (v.setWidth N)) ∨
    (2 ^ N ≤ v.toNat ∧ narrow N v = .error .numericConversion) := by
  unfold narrow
  split
  · exact .inr ⟨‹_›, rfl⟩
  · exact .inl ⟨Nat.lt_of_not_le ‹_›, rfl⟩

theorem toNat_wordFromBytes (b0 b1 : Byte) : (wordFromBytes b0 b1).toNat = b1.toNat * 256 + b0.toNat := by
  show (b1 ++ b0).toNat = _
  rw [BitVec.toNat_append, ← Nat.shiftLeft_add_eq_or_of_lt b0.isLt, Nat.shiftLeft_eq]

end Sys2Proof.Machine
end

