-- ==== Sys2Proof/Laws/State.lean ====
section
/-! SUPPORT. One lemma per field of State per update. -/

namespace Sys2Proof.Machine

@[simp] theorem complete_capacity (s : State) (op : Operation) (v : Value s.capacity) :
    (s.complete op v).capacity = s.capacity := rfl
@[simp] theorem complete_pending (s : State) (op : Operation) (v : Value s.capacity) :
    (s.complete op v).pending = s.pending := rfl
@[simp] theorem complete_results (s : State) (op : Operation) (v : Value s.capacity) :
    (s.complete op v).results = s.results ++ [⟨op, .ok v⟩] := rfl

@[simp] theorem raise_capacity (s : State) (op : Operation) (k : ErrorKind) :
    (s.raise op k).capacity = s.capacity := rfl
@[simp] theorem raise_pending (s : State) (op : Operation) (k : ErrorKind) :
    (s.raise op k).pending = s.pending := rfl
@[simp] theorem raise_results (s : State) (op : Operation) (k : ErrorKind) :
    (s.raise op k).results = s.results ++ [⟨op, .error k⟩] := rfl

@[simp] theorem takeLine_capacity (s : State) : s.takeLine.capacity = s.capacity := rfl
@[simp] theorem takeLine_pending (s : State) : s.takeLine.pending = s.pending.tail := rfl
@[simp] theorem takeLine_results (s : State) : s.takeLine.results = s.results := rfl

@[simp] theorem present_capacity (s : State) (l : Line) : (s.present l).capacity = s.capacity := rfl
@[simp] theorem present_pending (s : State) (l : Line) : (s.present l).pending = l :: s.pending := rfl
@[simp] theorem present_results (s : State) (l : Line) : (s.present l).results = s.results := rfl

@[simp] theorem takeLine_present (s : State) (l : Line) : (s.present l).takeLine = s := rfl
@[simp] theorem nextLine_present (s : State) (l : Line) : (s.present l).nextLine = some l := rfl

@[simp] theorem withFetchWord_capacity (s : State) (nbits w : Nat) :
    (s.withFetchWord nbits w).capacity = s.capacity := rfl
@[simp] theorem withFetchWord_results (s : State) (nbits w : Nat) :
    (s.withFetchWord nbits w).results = s.results := rfl

end Sys2Proof.Machine
end

