-- ==== Sys2Proof/Laws/Ops.lean ====
section
/-! SUPPORT. What each shared operation can do, said once. -/

namespace Sys2Proof.Machine

@[simp] theorem after_capacity (s : State) (op : Operation) (o : Except ErrorKind (Value s.capacity)) :
    (s.after op o).capacity = s.capacity := rfl
@[simp] theorem after_pending (s : State) (op : Operation) (o : Except ErrorKind (Value s.capacity)) :
    (s.after op o).pending = s.pending := rfl
@[simp] theorem after_results (s : State) (op : Operation) (o : Except ErrorKind (Value s.capacity)) :
    (s.after op o).results = s.results ++ [⟨op, o⟩] := rfl

/-- The end of an evaluation always answers a next state, with one more result. -/
theorem finish_eq_next (s : State) (op : Operation) (o : Except ErrorKind (Value s.capacity)) :
    s.finish op o = .next (s.after op o) := by
  cases o <;> rfl

/-- A header word that arrives ends as an evaluation of `DECODE_HEADER` on it. -/
theorem receiveHeader_eq_next (s : State) (w : HeaderWord) :
    s.receiveHeader w = .next (s.after .decodeHeader ((decodeHeader w).map fieldsValue)) :=
  finish_eq_next ..

/-- An SRSP byte that arrives ends as an evaluation of `SRSP_FROM_RAW` on it. -/
theorem receiveSrsp_eq_next (s : State) (b : Byte) :
    s.receiveSrsp b = .next (s.after .srspFromRaw ((srspFromRaw b).map .srspCode)) :=
  finish_eq_next ..

/-- The length check raises one kind, exactly over either bound. -/
theorem checkLength_cases (capacity : Nat) (length : Length) :
    ((maxLength < length.toNat ∨ capacity < length.toNat) ∧
      checkLength capacity length = .error .outOfRangeConstruction) ∨
    ∃ bounds : length.toNat ≤ maxLength ∧ length.toNat ≤ capacity, checkLength capacity length = .ok ⟨bounds⟩ := by
  unfold checkLength
  split
  · exact .inl ⟨.inl ‹_›, rfl⟩
  · split
    · exact .inl ⟨.inr ‹_›, rfl⟩
    · exact .inr ⟨⟨Nat.le_of_not_lt ‹_›, Nat.le_of_not_lt ‹_›⟩, rfl⟩

/-- `FRAME_NEW` on `N` bytes rejects over either bound, or builds the Frame; it has no third case. -/
theorem frameNew_cases (capacity : Nat) (length : Length) (h : CommandHeader) (payload : Vector Byte capacity) :
    ((maxLength < length.toNat ∨ capacity < length.toNat) ∧
      frameNew capacity length h payload = .error .outOfRangeConstruction) ∨
    ∃ f : Frame capacity, f.length = length ∧ f.header = h ∧ f.data = payload.toList.take length.toNat ∧
      frameNew capacity length h payload = .ok f := by
  unfold frameNew
  rcases checkLength_cases capacity length with ⟨exceeds, e⟩ | ⟨bounds, e⟩ <;> rw [e]
  · exact .inl ⟨exceeds, rfl⟩
  · exact .inr ⟨_, rfl, rfl, rfl, rfl⟩

/-- The payload input carries the driven data bytes as they are. -/
theorem take_payloadPort {capacity n : Nat} {payload : List Byte} (fits : n ≤ capacity) (driven : n ≤ payload.length) :
    (payloadPort capacity payload).toList.take n = payload.take n := by
  show ((payload ++ List.replicate capacity 0).take capacity).take n = _
  rw [List.take_take, Nat.min_eq_left fits, List.take_append_of_le_length driven]

/-- A payload of `N` bytes is passed as it is. -/
theorem payloadPort_toList {capacity : Nat} (payload : Vector Byte capacity) :
    payloadPort capacity payload.toList = payload := by
  apply Vector.toList_inj.1
  show (payload.toList ++ _).take capacity = _
  rw [List.take_append_of_le_length payload.length_toList.ge, List.take_of_length_le payload.length_toList.le]

theorem dataUndriven_iff {capacity : Nat} {length : Length} {payload : List Byte} :
    dataUndriven capacity length payload = true ↔
      length.toNat ≤ maxLength ∧ length.toNat ≤ capacity ∧ payload.length < length.toNat := by
  simp only [dataUndriven, Bool.and_eq_true, decide_eq_true_eq, and_assoc]

/-- `FRAME_NEW` rejects over either bound, builds the Frame from a payload that drives its data bytes, or stops. -/
theorem execFrameNew_cases (length : Length) (h : CommandHeader) (payload : List Byte) (s : State) :
    ((maxLength < length.toNat ∨ s.capacity < length.toNat) ∧
      execFrameNew length h payload s = .next (s.after .frameNew (.error .outOfRangeConstruction))) ∨
    (∃ f : Frame s.capacity, f.length = length ∧ f.header = h ∧ f.data = payload.take length.toNat ∧
      length.toNat ≤ payload.length ∧
      execFrameNew length h payload s = .next (s.after .frameNew (.ok (.frame f)))) ∨
    (length.toNat ≤ maxLength ∧ length.toNat ≤ s.capacity ∧ payload.length < length.toNat ∧
      execFrameNew length h payload s = .fault .payloadNotDriven) := by
  unfold execFrameNew
  split
  · have undriven := dataUndriven_iff.1 ‹_›
    exact .inr (.inr ⟨undriven.1, undriven.2.1, undriven.2.2, rfl⟩)
  · have driven := mt dataUndriven_iff.2 ‹_›
    rw [finish_eq_next]
    rcases frameNew_cases s.capacity length h (payloadPort s.capacity payload) with ⟨exceeds, e⟩ | ⟨f, hl, hh, hd, e⟩ <;>
      rw [e]
    · exact .inl ⟨exceeds, rfl⟩
    · have inMax := hl ▸ f.length_le_maxLength
      have fits := hl ▸ f.length_le_capacity
      have enough : length.toNat ≤ payload.length := by omega
      exact .inr (.inl ⟨f, hl, hh, hd.trans (take_payloadPort fits enough), enough, rfl⟩)

/-- On a payload of `N` bytes the instruction is the pure function of R18 and nothing else: it never stops. -/
theorem execFrameNew_vector (length : Length) (h : CommandHeader) (s : State) (payload : Vector Byte s.capacity) :
    execFrameNew length h payload.toList s =
      .next (s.after .frameNew ((frameNew s.capacity length h payload).map .frame)) := by
  have driven : ¬ dataUndriven s.capacity length payload.toList = true := by
    rw [dataUndriven_iff, payload.length_toList]
    omega
  rw [execFrameNew, if_neg driven, payloadPort_toList, finish_eq_next]

/-- A Frame is its length, its header and its data bytes. -/
theorem frame_ext {capacity : Nat} {f g : Frame capacity} (hl : f.length = g.length) (hh : f.header = g.header)
    (hd : f.data = g.data) : f = g := by
  cases f; cases g; cases hl; cases hh; cases hd; rfl

/-- A step that answers a next state had nothing lined up, or took a line that decodes. -/
theorem step_cases {s t : State} (h : step s = .next t) :
    (s.pending = [] ∧ t = s) ∨
    ∃ l rest i, s.pending = l :: rest ∧ decode l = .ok i ∧
      exec i ⟨s.capacity, rest, s.results⟩ = .next t := by
  obtain ⟨capacity, pending, results⟩ := s
  cases pending with
  | nil => exact .inl ⟨rfl, (by simpa [step, State.nextLine] using h.symm)⟩
  | cons l rest =>
    simp only [step, State.nextLine, List.head?_cons] at h
    cases hd : decode l with
    | error d => simp [hd] at h
    | ok i => exact .inr ⟨l, rest, i, rfl, hd, (by simp only [hd] at h; exact h)⟩

end Sys2Proof.Machine
end

