-- ==== Sys2Proof/Laws/PerInstr.lean ====
section
/-! SUPPORT. Statements about every instruction as syntax, one lemma per constructor. The family says that the encoder's
line is selected by the instruction's own row of spec/opcode_table.json. -/

namespace Sys2Proof.Laws

open Machine

/-- The packed word under the type mask of R52. -/
theorem packed_and_typeMask (a : BitVec 8) (b : BitVec 3) (c : BitVec 5) :
    (place 15 8 a ||| place 7 5 b ||| place 4 0 c) &&& 0x00E0#16 = place 7 5 b := by
  apply BitVec.eq_of_getLsbD_eq
  intro i hi
  interval_cases i <;> simp [place]

/-- The packed word under the subsystem mask of R52. -/
theorem packed_and_subsystemMask (a : BitVec 8) (b : BitVec 3) (c : BitVec 5) :
    (place 15 8 a ||| place 7 5 b ||| place 4 0 c) &&& 0x001F#16 = place 4 0 c := by
  apply BitVec.eq_of_getLsbD_eq
  intro i hi
  interval_cases i <;> simp [place]

/-- A header word's line, numbered as the table numbers it, is the word. -/
theorem lineNumber_wireWord (w : HeaderWord) : lineNumber (wireWord w) = w.toNat := by
  have := w.isLt
  simp [lineNumber, wireWord, bytesFromWord, Nat.shiftRight_eq_div_pow]
  omega

/-- The family: the line of an instruction is selected by its row. -/
def EncodingMatchesRow.Statement (i : Instr) : Prop := (rowOf i).selects (encode i) = true

theorem operation_selects (n : Nat) (hn : n < 16) (op : Operation) (h : op.number.toNat = n) (l : List Byte) :
    Row.selects ⟨.operation, 0xF, n⟩ (operationLine op l) = true := by
  have h8 : (op.number.setWidth 8).toNat = n := by simp; omega
  have : n + 256 * lineNumber l &&& 15 = (n + 256 * lineNumber l) % 2 ^ 4 := Nat.and_two_pow_sub_one_eq_mod _ 4
  simp [Row.selects, operationLine, lineNumber, h8, this]
  omega

theorem typeLine_selects (t : CommandType) (id : CommandId) (s : Subsystem) :
    Row.selects ⟨.headerType, 0x00E0, (place 7 5 t.raw).toNat⟩ (typeLine t id s) = true := by
  have := congrArg BitVec.toNat (packed_and_typeMask id t.raw s.raw)
  rw [BitVec.toNat_and] at this
  simpa [Row.selects, typeLine, lineNumber_wireWord, packHeader] using this

theorem subsystemLine_selects (s : Subsystem) (id : CommandId) (t : CommandType) :
    Row.selects ⟨.headerSubsystem, 0x001F, (place 4 0 s.raw).toNat⟩ (subsystemLine s id t) = true := by
  have := congrArg BitVec.toNat (packed_and_subsystemMask id t.raw s.raw)
  rw [BitVec.toNat_and] at this
  simpa [Row.selects, subsystemLine, lineNumber_wireWord, packHeader] using this

theorem EncodingMatchesRow.ctRaw (t : CommandType) : EncodingMatchesRow.Statement (.ctRaw t) :=
  operation_selects 0 (by decide) .ctRaw rfl _
theorem EncodingMatchesRow.ctFromRaw (n : RawByte) : EncodingMatchesRow.Statement (.ctFromRaw n) :=
  operation_selects 1 (by decide) .ctFromRaw rfl _
theorem EncodingMatchesRow.ssRaw (s : Subsystem) : EncodingMatchesRow.Statement (.ssRaw s) :=
  operation_selects 2 (by decide) .ssRaw rfl _
theorem EncodingMatchesRow.ssFromRaw (n : RawByte) : EncodingMatchesRow.Statement (.ssFromRaw n) :=
  operation_selects 3 (by decide) .ssFromRaw rfl _
theorem EncodingMatchesRow.pbfGetType (h : CommandHeader) : EncodingMatchesRow.Statement (.pbfGetType h) :=
  operation_selects 4 (by decide) .pbfGetType rfl _
theorem EncodingMatchesRow.pbfGetSubsys (h : CommandHeader) : EncodingMatchesRow.Statement (.pbfGetSubsys h) :=
  operation_selects 5 (by decide) .pbfGetSubsys rfl _
theorem EncodingMatchesRow.pbfGetId (h : CommandHeader) : EncodingMatchesRow.Statement (.pbfGetId h) :=
  operation_selects 6 (by decide) .pbfGetId rfl _
theorem EncodingMatchesRow.encodeHeader (t : CommandType) (s : Subsystem) (id : CommandId) : EncodingMatchesRow.Statement (.encodeHeader t s id) :=
  operation_selects 7 (by decide) .encodeHeader rfl _
theorem EncodingMatchesRow.viewFirstByte (w : HeaderWord) : EncodingMatchesRow.Statement (.viewFirstByte w) :=
  operation_selects 8 (by decide) .viewFirstByte rfl _
theorem EncodingMatchesRow.viewType (w : HeaderWord) : EncodingMatchesRow.Statement (.viewType w) :=
  operation_selects 9 (by decide) .viewType rfl _
theorem EncodingMatchesRow.viewSubsys (w : HeaderWord) : EncodingMatchesRow.Statement (.viewSubsys w) :=
  operation_selects 10 (by decide) .viewSubsys rfl _
theorem EncodingMatchesRow.viewCmdId (w : HeaderWord) : EncodingMatchesRow.Statement (.viewCmdId w) :=
  operation_selects 11 (by decide) .viewCmdId rfl _
theorem EncodingMatchesRow.decodeHeader (w : HeaderWord) : EncodingMatchesRow.Statement (.decodeHeader w) :=
  operation_selects 12 (by decide) .decodeHeader rfl _
theorem EncodingMatchesRow.frameNew (length : Length) (h : CommandHeader) (payload : List Byte) : EncodingMatchesRow.Statement (.frameNew length h payload) :=
  operation_selects 13 (by decide) .frameNew rfl _
theorem EncodingMatchesRow.srspRaw (e : SRSPErrorCode) : EncodingMatchesRow.Statement (.srspRaw e) :=
  operation_selects 14 (by decide) .srspRaw rfl _
theorem EncodingMatchesRow.srspFromRaw (b : RawByte) : EncodingMatchesRow.Statement (.srspFromRaw b) :=
  operation_selects 15 (by decide) .srspFromRaw rfl _

theorem EncodingMatchesRow.poll (id : CommandId) (s : Subsystem) : EncodingMatchesRow.Statement (.poll id s) :=
  typeLine_selects .poll id s
theorem EncodingMatchesRow.syncRequest (id : CommandId) (s : Subsystem) : EncodingMatchesRow.Statement (.syncRequest id s) :=
  typeLine_selects .syncRequest id s
theorem EncodingMatchesRow.asyncRequest (id : CommandId) (s : Subsystem) : EncodingMatchesRow.Statement (.asyncRequest id s) :=
  typeLine_selects .asyncRequest id s
theorem EncodingMatchesRow.syncResponse (id : CommandId) (s : Subsystem) : EncodingMatchesRow.Statement (.syncResponse id s) :=
  typeLine_selects .syncResponse id s
theorem EncodingMatchesRow.reserved4 (id : CommandId) (s : Subsystem) : EncodingMatchesRow.Statement (.reserved4 id s) :=
  typeLine_selects .reserved4 id s
theorem EncodingMatchesRow.reserved5 (id : CommandId) (s : Subsystem) : EncodingMatchesRow.Statement (.reserved5 id s) :=
  typeLine_selects .reserved5 id s
theorem EncodingMatchesRow.reserved6 (id : CommandId) (s : Subsystem) : EncodingMatchesRow.Statement (.reserved6 id s) :=
  typeLine_selects .reserved6 id s
theorem EncodingMatchesRow.reserved7 (id : CommandId) (s : Subsystem) : EncodingMatchesRow.Statement (.reserved7 id s) :=
  typeLine_selects .reserved7 id s

theorem EncodingMatchesRow.rpcError (id : CommandId) (t : CommandType) : EncodingMatchesRow.Statement (.rpcError id t) :=
  subsystemLine_selects .rpcError id t
theorem EncodingMatchesRow.sys (id : CommandId) (t : CommandType) : EncodingMatchesRow.Statement (.sys id t) :=
  subsystemLine_selects .sys id t
theorem EncodingMatchesRow.reserved2 (id : CommandId) (t : CommandType) : EncodingMatchesRow.Statement (.reserved2 id t) :=
  subsystemLine_selects .reserved2 id t
theorem EncodingMatchesRow.reserved3 (id : CommandId) (t : CommandType) : EncodingMatchesRow.Statement (.reserved3 id t) :=
  subsystemLine_selects .reserved3 id t
theorem EncodingMatchesRow.af (id : CommandId) (t : CommandType) : EncodingMatchesRow.Statement (.af id t) :=
  subsystemLine_selects .af id t
theorem EncodingMatchesRow.zdo (id : CommandId) (t : CommandType) : EncodingMatchesRow.Statement (.zdo id t) :=
  subsystemLine_selects .zdo id t
theorem EncodingMatchesRow.simpleApi (id : CommandId) (t : CommandType) : EncodingMatchesRow.Statement (.simpleApi id t) :=
  subsystemLine_selects .simpleApi id t
theorem EncodingMatchesRow.util (id : CommandId) (t : CommandType) : EncodingMatchesRow.Statement (.util id t) :=
  subsystemLine_selects .util id t
theorem EncodingMatchesRow.reserved8 (id : CommandId) (t : CommandType) : EncodingMatchesRow.Statement (.reserved8 id t) :=
  subsystemLine_selects .reserved8 id t
theorem EncodingMatchesRow.app (id : CommandId) (t : CommandType) : EncodingMatchesRow.Statement (.app id t) :=
  subsystemLine_selects .app id t
theorem EncodingMatchesRow.reserved10 (id : CommandId) (t : CommandType) : EncodingMatchesRow.Statement (.reserved10 id t) :=
  subsystemLine_selects .reserved10 id t
theorem EncodingMatchesRow.reserved11 (id : CommandId) (t : CommandType) : EncodingMatchesRow.Statement (.reserved11 id t) :=
  subsystemLine_selects .reserved11 id t
theorem EncodingMatchesRow.reserved12 (id : CommandId) (t : CommandType) : EncodingMatchesRow.Statement (.reserved12 id t) :=
  subsystemLine_selects .reserved12 id t
theorem EncodingMatchesRow.reserved13 (id : CommandId) (t : CommandType) : EncodingMatchesRow.Statement (.reserved13 id t) :=
  subsystemLine_selects .reserved13 id t
theorem EncodingMatchesRow.reserved14 (id : CommandId) (t : CommandType) : EncodingMatchesRow.Statement (.reserved14 id t) :=
  subsystemLine_selects .reserved14 id t
theorem EncodingMatchesRow.reserved15 (id : CommandId) (t : CommandType) : EncodingMatchesRow.Statement (.reserved15 id t) :=
  subsystemLine_selects .reserved15 id t
theorem EncodingMatchesRow.reserved16 (id : CommandId) (t : CommandType) : EncodingMatchesRow.Statement (.reserved16 id t) :=
  subsystemLine_selects .reserved16 id t
theorem EncodingMatchesRow.reserved17 (id : CommandId) (t : CommandType) : EncodingMatchesRow.Statement (.reserved17 id t) :=
  subsystemLine_selects .reserved17 id t
theorem EncodingMatchesRow.reserved18 (id : CommandId) (t : CommandType) : EncodingMatchesRow.Statement (.reserved18 id t) :=
  subsystemLine_selects .reserved18 id t
theorem EncodingMatchesRow.reserved19 (id : CommandId) (t : CommandType) : EncodingMatchesRow.Statement (.reserved19 id t) :=
  subsystemLine_selects .reserved19 id t
theorem EncodingMatchesRow.reserved20 (id : CommandId) (t : CommandType) : EncodingMatchesRow.Statement (.reserved20 id t) :=
  subsystemLine_selects .reserved20 id t
theorem EncodingMatchesRow.reserved21 (id : CommandId) (t : CommandType) : EncodingMatchesRow.Statement (.reserved21 id t) :=
  subsystemLine_selects .reserved21 id t
theorem EncodingMatchesRow.reserved22 (id : CommandId) (t : CommandType) : EncodingMatchesRow.Statement (.reserved22 id t) :=
  subsystemLine_selects .reserved22 id t
theorem EncodingMatchesRow.reserved23 (id : CommandId) (t : CommandType) : EncodingMatchesRow.Statement (.reserved23 id t) :=
  subsystemLine_selects .reserved23 id t
theorem EncodingMatchesRow.reserved24 (id : CommandId) (t : CommandType) : EncodingMatchesRow.Statement (.reserved24 id t) :=
  subsystemLine_selects .reserved24 id t
theorem EncodingMatchesRow.reserved25 (id : CommandId) (t : CommandType) : EncodingMatchesRow.Statement (.reserved25 id t) :=
  subsystemLine_selects .reserved25 id t
theorem EncodingMatchesRow.reserved26 (id : CommandId) (t : CommandType) : EncodingMatchesRow.Statement (.reserved26 id t) :=
  subsystemLine_selects .reserved26 id t
theorem EncodingMatchesRow.reserved27 (id : CommandId) (t : CommandType) : EncodingMatchesRow.Statement (.reserved27 id t) :=
  subsystemLine_selects .reserved27 id t
theorem EncodingMatchesRow.reserved28 (id : CommandId) (t : CommandType) : EncodingMatchesRow.Statement (.reserved28 id t) :=
  subsystemLine_selects .reserved28 id t
theorem EncodingMatchesRow.reserved29 (id : CommandId) (t : CommandType) : EncodingMatchesRow.Statement (.reserved29 id t) :=
  subsystemLine_selects .reserved29 id t
theorem EncodingMatchesRow.reserved30 (id : CommandId) (t : CommandType) : EncodingMatchesRow.Statement (.reserved30 id t) :=
  subsystemLine_selects .reserved30 id t
theorem EncodingMatchesRow.reserved31 (id : CommandId) (t : CommandType) : EncodingMatchesRow.Statement (.reserved31 id t) :=
  subsystemLine_selects .reserved31 id t

theorem EncodingMatchesRow.ok : EncodingMatchesRow.Statement .ok :=
  (by decide : (rowOf .ok).selects (encode .ok) = true)
theorem EncodingMatchesRow.invalidSubsystem : EncodingMatchesRow.Statement .invalidSubsystem :=
  (by decide : (rowOf .invalidSubsystem).selects (encode .invalidSubsystem) = true)
theorem EncodingMatchesRow.invalidCommandId : EncodingMatchesRow.Statement .invalidCommandId :=
  (by decide : (rowOf .invalidCommandId).selects (encode .invalidCommandId) = true)
theorem EncodingMatchesRow.invalidParameter : EncodingMatchesRow.Statement .invalidParameter :=
  (by decide : (rowOf .invalidParameter).selects (encode .invalidParameter) = true)
theorem EncodingMatchesRow.invalidLength : EncodingMatchesRow.Statement .invalidLength :=
  (by decide : (rowOf .invalidLength).selects (encode .invalidLength) = true)

end Sys2Proof.Laws
end

