-- ==== Sys2Proof/Tests/Slice0.lean ====
section
/-! SUPPORT. Tests: lines written out from the spec's tables, the spec's vectors (95_test_vectors.md), and a witness for
every statement that has hypotheses. -/

namespace Sys2Proof.Tests

open Sys2Proof Sys2Proof.Machine

/-- An instance of capacity `n` with these lines waiting. -/
def lined (n : Nat) (l : List Line) : State := { capacity := n, pending := l, results := [] }

/-- One step on this line, with nothing else waiting, gives exactly this one result and changes nothing else. -/
def gives (n : Nat) (l : Line) (op : Operation) (o : Except ErrorKind (Value n)) : Bool :=
  match step (lined n [l]) with
  | .next s => decide (s = (lined n []).after op o)
  | _ => false

/-- The same on an operation's bytes. -/
def run1 (n : Nat) (bytes : List Byte) (op : Operation) (o : Except ErrorKind (Value n)) : Bool :=
  gives n ⟨.operation, bytes⟩ op o

/-- The Frame of the worked example of R145. -/
def exampleFrame : Frame 8 := ⟨3, 0x2025, [1, 2, 3], by decide, by decide, by decide⟩

/-! ### Decoding: every constructor's line, its bits as the spec's tables have them -/

/-- R60: the operation number, then the operands. -/
theorem test_decode_operations :
    decode ⟨.operation, [0b0000, 3]⟩ = .ok (.ctRaw .syncResponse) ∧
    decode ⟨.operation, [0b0001, 0xFF]⟩ = .ok (.ctFromRaw 0xFF) ∧
    decode ⟨.operation, [0b0010, 9]⟩ = .ok (.ssRaw .app) ∧
    decode ⟨.operation, [0b0011, 0x20]⟩ = .ok (.ssFromRaw 0x20) ∧
    decode ⟨.operation, [0b0100, 0x25, 0x20]⟩ = .ok (.pbfGetType 0x2025) ∧
    decode ⟨.operation, [0b0101, 0xC3, 0xA5]⟩ = .ok (.pbfGetSubsys 0xA5C3) ∧
    decode ⟨.operation, [0b0110, 0x34, 0x12]⟩ = .ok (.pbfGetId 0x1234) ∧
    decode ⟨.operation, [0b0111, 2, 5, 0x80]⟩ = .ok (.encodeHeader .asyncRequest .zdo 0x80) ∧
    decode ⟨.operation, [0b1000, 0x61, 0x02]⟩ = .ok (.viewFirstByte 0x0261) ∧
    decode ⟨.operation, [0b1001, 0x61, 0x02]⟩ = .ok (.viewType 0x0261) ∧
    decode ⟨.operation, [0b1010, 0x61, 0x02]⟩ = .ok (.viewSubsys 0x0261) ∧
    decode ⟨.operation, [0b1011, 0x61, 0x02]⟩ = .ok (.viewCmdId 0x0261) ∧
    decode ⟨.operation, [0b1100, 0x25, 0x20]⟩ = .ok (.decodeHeader 0x2025) ∧
    decode ⟨.operation, [0b1101, 2, 0x25, 0x20, 0x34, 0x12]⟩ = .ok (.frameNew 2 0x2025 [0x34, 0x12]) ∧
    decode ⟨.operation, [0b1110, 4]⟩ = .ok (.srspRaw .invalidLength) ∧
    decode ⟨.operation, [0b1111, 5]⟩ = .ok (.srspFromRaw 5) := by decide

/-- R54: `iiiiiiii ttt sssss`, low byte first. -/
theorem test_decode_type_rows :
    decode ⟨.headerType, [0b00001001, 0x5A]⟩ = .ok (.poll 0x5A .app) ∧
    decode ⟨.headerType, [0b00101001, 0x5A]⟩ = .ok (.syncRequest 0x5A .app) ∧
    decode ⟨.headerType, [0b01001001, 0x5A]⟩ = .ok (.asyncRequest 0x5A .app) ∧
    decode ⟨.headerType, [0b01101001, 0x5A]⟩ = .ok (.syncResponse 0x5A .app) ∧
    decode ⟨.headerType, [0b10001001, 0x5A]⟩ = .ok (.reserved4 0x5A .app) ∧
    decode ⟨.headerType, [0b10101001, 0x5A]⟩ = .ok (.reserved5 0x5A .app) ∧
    decode ⟨.headerType, [0b11001001, 0x5A]⟩ = .ok (.reserved6 0x5A .app) ∧
    decode ⟨.headerType, [0b11101001, 0x5A]⟩ = .ok (.reserved7 0x5A .app) := by decide

/-- R55: `iiiiiiii ttt sssss`, low byte first. -/
theorem test_decode_subsystem_rows :
    decode ⟨.headerSubsystem, [0b11000000, 0xA5]⟩ = .ok (.rpcError 0xA5 .reserved6) ∧
    decode ⟨.headerSubsystem, [0b11000001, 0xA5]⟩ = .ok (.sys 0xA5 .reserved6) ∧
    decode ⟨.headerSubsystem, [0b11000010, 0xA5]⟩ = .ok (.reserved2 0xA5 .reserved6) ∧
    decode ⟨.headerSubsystem, [0b11000011, 0xA5]⟩ = .ok (.reserved3 0xA5 .reserved6) ∧
    decode ⟨.headerSubsystem, [0b11000100, 0xA5]⟩ = .ok (.af 0xA5 .reserved6) ∧
    decode ⟨.headerSubsystem, [0b11000101, 0xA5]⟩ = .ok (.zdo 0xA5 .reserved6) ∧
    decode ⟨.headerSubsystem, [0b11000110, 0xA5]⟩ = .ok (.simpleApi 0xA5 .reserved6) ∧
    decode ⟨.headerSubsystem, [0b11000111, 0xA5]⟩ = .ok (.util 0xA5 .reserved6) ∧
    decode ⟨.headerSubsystem, [0b11001000, 0xA5]⟩ = .ok (.reserved8 0xA5 .reserved6) ∧
    decode ⟨.headerSubsystem, [0b11001001, 0xA5]⟩ = .ok (.app 0xA5 .reserved6) ∧
    decode ⟨.headerSubsystem, [0b11001010, 0xA5]⟩ = .ok (.reserved10 0xA5 .reserved6) ∧
    decode ⟨.headerSubsystem, [0b11001011, 0xA5]⟩ = .ok (.reserved11 0xA5 .reserved6) ∧
    decode ⟨.headerSubsystem, [0b11001100, 0xA5]⟩ = .ok (.reserved12 0xA5 .reserved6) ∧
    decode ⟨.headerSubsystem, [0b11001101, 0xA5]⟩ = .ok (.reserved13 0xA5 .reserved6) ∧
    decode ⟨.headerSubsystem, [0b11001110, 0xA5]⟩ = .ok (.reserved14 0xA5 .reserved6) ∧
    decode ⟨.headerSubsystem, [0b11001111, 0xA5]⟩ = .ok (.reserved15 0xA5 .reserved6) ∧
    decode ⟨.headerSubsystem, [0b11010000, 0xA5]⟩ = .ok (.reserved16 0xA5 .reserved6) ∧
    decode ⟨.headerSubsystem, [0b11010001, 0xA5]⟩ = .ok (.reserved17 0xA5 .reserved6) ∧
    decode ⟨.headerSubsystem, [0b11010010, 0xA5]⟩ = .ok (.reserved18 0xA5 .reserved6) ∧
    decode ⟨.headerSubsystem, [0b11010011, 0xA5]⟩ = .ok (.reserved19 0xA5 .reserved6) ∧
    decode ⟨.headerSubsystem, [0b11010100, 0xA5]⟩ = .ok (.reserved20 0xA5 .reserved6) ∧
    decode ⟨.headerSubsystem, [0b11010101, 0xA5]⟩ = .ok (.reserved21 0xA5 .reserved6) ∧
    decode ⟨.headerSubsystem, [0b11010110, 0xA5]⟩ = .ok (.reserved22 0xA5 .reserved6) ∧
    decode ⟨.headerSubsystem, [0b11010111, 0xA5]⟩ = .ok (.reserved23 0xA5 .reserved6) ∧
    decode ⟨.headerSubsystem, [0b11011000, 0xA5]⟩ = .ok (.reserved24 0xA5 .reserved6) ∧
    decode ⟨.headerSubsystem, [0b11011001, 0xA5]⟩ = .ok (.reserved25 0xA5 .reserved6) ∧
    decode ⟨.headerSubsystem, [0b11011010, 0xA5]⟩ = .ok (.reserved26 0xA5 .reserved6) ∧
    decode ⟨.headerSubsystem, [0b11011011, 0xA5]⟩ = .ok (.reserved27 0xA5 .reserved6) ∧
    decode ⟨.headerSubsystem, [0b11011100, 0xA5]⟩ = .ok (.reserved28 0xA5 .reserved6) ∧
    decode ⟨.headerSubsystem, [0b11011101, 0xA5]⟩ = .ok (.reserved29 0xA5 .reserved6) ∧
    decode ⟨.headerSubsystem, [0b11011110, 0xA5]⟩ = .ok (.reserved30 0xA5 .reserved6) ∧
    decode ⟨.headerSubsystem, [0b11011111, 0xA5]⟩ = .ok (.reserved31 0xA5 .reserved6) := by decide

/-- R58. -/
theorem test_decode_srsp_rows :
    decode ⟨.srspErrorCode, [0b00000000]⟩ = .ok .ok ∧
    decode ⟨.srspErrorCode, [0b00000001]⟩ = .ok .invalidSubsystem ∧
    decode ⟨.srspErrorCode, [0b00000010]⟩ = .ok .invalidCommandId ∧
    decode ⟨.srspErrorCode, [0b00000011]⟩ = .ok .invalidParameter ∧
    decode ⟨.srspErrorCode, [0b00000100]⟩ = .ok .invalidLength := by decide

/-- R58: a byte without a tag. -/
theorem test_decode_srsp_without_row : decode ⟨.srspErrorCode, [0x05]⟩ = .ok (.srspFromRaw 0x05) := by decide

/-- R16: patterns and shapes that no input carries are rejected by name, the greatest that are carried are not. -/
theorem test_decode_rejects :
    decode ⟨.operation, [0x0F, 0xFF]⟩ = .ok (.srspFromRaw 0xFF) ∧ decode ⟨.operation, [0x00, 7]⟩ = .ok (.ctRaw .reserved7) ∧
    decode ⟨.operation, [0x02, 31]⟩ = .ok (.ssRaw .reserved31) ∧
    decode ⟨.operation, [0x07, 7, 31, 0xFF]⟩ = .ok (.encodeHeader .reserved7 .reserved31 0xFF) ∧
    decode ⟨.operation, [0x0E, 4]⟩ = .ok (.srspRaw .invalidLength) ∧
    decode ⟨.operation, []⟩ = .error .empty ∧ decode ⟨.operation, [0x10, 0]⟩ = .error .operationNumber ∧
    decode ⟨.operation, [0x00, 8]⟩ = .error .operandOutsidePort ∧
    decode ⟨.operation, [0x02, 32]⟩ = .error .operandOutsidePort ∧
    decode ⟨.operation, [0x07, 8, 0, 0]⟩ = .error .operandOutsidePort ∧
    decode ⟨.operation, [0x07, 0, 32, 0]⟩ = .error .operandOutsidePort ∧
    decode ⟨.operation, [0x0E, 5]⟩ = .error .operandOutsidePort ∧
    decode ⟨.operation, [0x0C, 0]⟩ = .error .operandCount ∧
    decode ⟨.headerType, [0]⟩ = .error .operandCount := by decide

/-- 30_encoding.md section 6: within one space no two rows share a pattern under the mask. -/
theorem test_rows_do_not_overlap :
    (CommandType.table.toList.map (fun t => (rowOf (typeRow 0 .rpcError t)).pattern)).Nodup ∧
    (Subsystem.table.toList.map (fun s => (rowOf (subsystemRow 0 .poll s)).pattern)).Nodup := by decide

/-- The numbering of the table: the rows' own words, other bits 0. -/
theorem test_table_words :
    decodeTableWord 8 0x7 = some (.encodeHeader .poll .rpcError 0) ∧
    decodeTableWord 16 0x0020 = some (.syncRequest 0 .rpcError) ∧
    decodeTableWord 16 0x001F = some (.reserved31 0 .poll) ∧ decodeTableWord 24 0 = none := by decide

/-- WellFormed smoke: a payload that is not `N` bytes long is refused, one that is accepted. -/
theorem test_wellFormed_refuses_short_payload : (Instr.frameNew 3 0x2025 [1, 2, 3]).wellFormed 8 = false := by decide
theorem test_wellFormed_refuses_long_payload : (Instr.frameNew 1 0x2025 [1, 2, 3]).wellFormed 2 = false := by decide
theorem test_wellFormed_accepts : (Instr.frameNew 3 0x2025 [1, 2, 3, 0]).wellFormed 4 = true := by decide

/-! ### The spec's vectors -/

/-- Vectors 2.1: the nearest accepted inputs and the refusals. -/
theorem test_ctFromRaw :
    run1 0 [1, 0x03] .ctFromRaw (.ok (.type .syncResponse)) = true ∧
    run1 0 [1, 0x07] .ctFromRaw (.ok (.type .reserved7)) = true ∧
    run1 0 [1, 0x08] .ctFromRaw (.error .outOfRangeConstruction) = true ∧
    run1 0 [1, 0x20] .ctFromRaw (.error .outOfRangeConstruction) = true ∧
    run1 0 [1, 0xFF] .ctFromRaw (.error .outOfRangeConstruction) = true := by decide

/-- R80 worked example. -/
theorem test_ctRaw : run1 0 [0, 1] .ctRaw (.ok (.rawType 1)) = true := by decide

/-- R82 worked example. -/
theorem test_ssRaw : run1 0 [2, 5] .ssRaw (.ok (.rawSubsystem 5)) = true := by decide

/-- Vectors 2.2. -/
theorem test_ssFromRaw :
    run1 0 [3, 0x09] .ssFromRaw (.ok (.subsystem .app)) = true ∧
    run1 0 [3, 0x1F] .ssFromRaw (.ok (.subsystem .reserved31)) = true ∧
    run1 0 [3, 0x20] .ssFromRaw (.error .outOfRangeConstruction) = true ∧
    run1 0 [3, 0x25] .ssFromRaw (.error .outOfRangeConstruction) = true := by decide

/-- Program P4, lines 4 to 6. -/
theorem test_pbf :
    run1 0 [4, 0xC3, 0xA5] .pbfGetType (.ok (.type .reserved6)) = true ∧
    run1 0 [5, 0xC3, 0xA5] .pbfGetSubsys (.ok (.subsystem .reserved3)) = true ∧
    run1 0 [6, 0xC3, 0xA5] .pbfGetId (.ok (.commandId 0xA5)) = true := by decide

/-- Vectors 2.3. -/
theorem test_encodeHeader :
    encodeHeader .syncRequest .zdo 0x20 = 0x2025 ∧ encodeHeader .reserved7 .rpcError 0x00 = 0x00E0 ∧
    encodeHeader .poll .reserved31 0x00 = 0x001F ∧ encodeHeader .poll .rpcError 0xFF = 0xFF00 ∧
    encodeHeader .asyncRequest .af 0x81 = 0x8144 ∧ encodeHeader .reserved5 .reserved8 0xAA = 0xAAA8 ∧
    encodeHeader .syncResponse .simpleApi 0x04 = 0x0466 ∧ encodeHeader .syncRequest .reserved3 0xFE = 0xFE23 := by
  decide

/-- R115 worked example through the machine. -/
theorem test_encodeHeader_step :
    run1 0 [7, 1, 5, 0x20] .encodeHeader (.ok (.headerWord 0x2025)) = true := by decide

/-- Program P2, lines 2 to 6. -/
theorem test_views :
    run1 0 [8, 0x61, 0x02] .viewFirstByte (.ok (.firstByte 0x61)) = true ∧
    run1 0 [9, 0x61, 0x02] .viewType (.ok (.type .syncResponse)) = true ∧
    run1 0 [10, 0x61, 0x02] .viewSubsys (.ok (.subsystem .sys)) = true ∧
    run1 0 [11, 0x61, 0x02] .viewCmdId (.ok (.commandId 0x02)) = true ∧
    run1 0 [12, 0x61, 0x02] .decodeHeader (.ok (.fields .syncResponse .sys 0x02)) = true := by decide

/-- Vectors 2.4. -/
theorem test_decodeHeader :
    decodeHeader 0x2025 = .ok (.syncRequest, .zdo, 0x20) ∧ decodeHeader 0x2005 = .ok (.poll, .zdo, 0x20) ∧
    decodeHeader 0xA5C3 = .ok (.reserved6, .reserved3, 0xA5) ∧ decodeHeader 0x1269 = .ok (.syncResponse, .app, 0x12) ∧
    decodeHeader 0x5A3C = .ok (.syncRequest, .reserved28, 0x5A) ∧
    decodeHeader 0xABCD = .ok (.reserved6, .reserved13, 0xAB) := by decide

/-- Vectors 2.5: each bit of the word belongs to exactly one field. -/
theorem test_walking_one :
    decodeHeader 0x0001 = .ok (.poll, .sys, 0) ∧ decodeHeader 0x0002 = .ok (.poll, .reserved2, 0) ∧
    decodeHeader 0x0004 = .ok (.poll, .af, 0) ∧ decodeHeader 0x0008 = .ok (.poll, .reserved8, 0) ∧
    decodeHeader 0x0010 = .ok (.poll, .reserved16, 0) := by decide

/-- Vectors 2.5, the type and id bits. -/
theorem test_walking_one_high :
    decodeHeader 0x0020 = .ok (.syncRequest, .rpcError, 0) ∧
    decodeHeader 0x0040 = .ok (.asyncRequest, .rpcError, 0) ∧ decodeHeader 0x0080 = .ok (.reserved4, .rpcError, 0) ∧
    decodeHeader 0x0100 = .ok (.poll, .rpcError, 0x01) ∧ decodeHeader 0x8000 = .ok (.poll, .rpcError, 0x80) := by
  decide

/-- The status of `FRAME_NEW` on `n` payload bytes. -/
def frameStatus (n : Nat) (length : Length) : Status := outcomeStatus (frameNew n length 0x2025 (Vector.replicate n 9))

/-- Vectors 2.6, on the pure function. -/
theorem test_frameNew_bounds :
    frameStatus 0 0 = 0 ∧ frameStatus 0 1 = 2 ∧ frameStatus 8 8 = 0 ∧ frameStatus 8 9 = 2 ∧ frameStatus 8 251 = 2 ∧
    frameStatus 250 250 = 0 ∧ frameStatus 255 251 = 2 ∧ frameStatus 1000 250 = 0 ∧ frameStatus 1000 251 = 2 ∧
    frameStatus 249 250 = 2 := by decide

/-- Vectors 2.6: the Frame of `FRAME_NEW(3, 0x2025, ...)` with `N = 8`, whatever the padding. -/
theorem test_frameNew :
    run1 8 [13, 3, 0x25, 0x20, 1, 2, 3, 9, 9, 9, 9, 9] .frameNew (.ok (.frame exampleFrame)) = true ∧
    run1 8 [13, 9, 0x25, 0x20, 1, 2, 3, 9, 9, 9, 9, 9] .frameNew (.error .outOfRangeConstruction) = true := by
  decide

/-- Vectors 2.7. -/
theorem test_srsp :
    run1 0 [14, 4] .srspRaw (.ok (.srspByte 4)) = true ∧
    run1 0 [15, 0] .srspFromRaw (.ok (.srspCode .ok)) = true ∧
    run1 0 [15, 4] .srspFromRaw (.ok (.srspCode .invalidLength)) = true ∧
    run1 0 [15, 5] .srspFromRaw (.error .decodeError) = true ∧
    run1 0 [15, 0xFF] .srspFromRaw (.error .decodeError) = true := by decide

/-- Vectors 2.8. -/
theorem test_wire :
    wordFromBytes 0x25 0x20 = 0x2025 ∧ wordFromBytes 0x20 0x25 = 0x2520 ∧
    bytesFromWord 0x0261 = (0x61, 0x02) ∧
    (Frame.mk (capacity := 2) 2 0x2025 [0x34, 0x12] (by decide) (by decide) (by decide)).wireBytes =
      [0x02, 0x25, 0x20, 0x34, 0x12] ∧
    (Frame.mk (capacity := 0) 0 0x0121 [] (by decide) (by decide) (by decide)).wireBytes = [0x00, 0x21, 0x01] := by
  decide

/-- The four primitives on the spec's numbers (R101, R102, R125). -/
theorem test_primitives :
    extract 0x2025 7 5 = 1 ∧ extract 0x2025 4 0 = 5 ∧ extract 0x2025 15 8 = 0x20 ∧
    place 15 8 0x20 = 0x2000 ∧ place 7 5 7 = 0x00E0 ∧ place 4 0 31 = 0x001F ∧
    narrow 8 (0x00FF#16) = .ok 0xFF ∧ narrow 8 (0x0100#16) = .error .numericConversion := by decide

/-- R57: words of both header tables, and an SRSP row. -/
theorem test_rows_step :
    gives 0 ⟨.headerType, [0xC3, 0xA5]⟩ .decodeHeader (.ok (.fields .reserved6 .reserved3 0xA5)) = true ∧
    gives 0 ⟨.headerSubsystem, [0x69, 0x12]⟩ .decodeHeader (.ok (.fields .syncResponse .app 0x12)) = true ∧
    gives 0 ⟨.srspErrorCode, [0x03]⟩ .srspFromRaw (.ok (.srspCode .invalidParameter)) = true := by decide

/-! ### Witnesses: states and operands that meet the hypotheses of a statement, at the boundaries of its clauses -/

theorem witness_CtFromRawGivesTheTagOrOutOfRange : (7#8).toNat ≤ 7 ∧ 8 ≤ (8#8).toNat := by decide
theorem witness_SsFromRawGivesTheTagOrOutOfRange : (31#8).toNat ≤ 31 ∧ 32 ≤ (32#8).toNat := by decide
theorem witness_NumericConversionErrorNeverReturned : ∃ t, exec (.viewType 0x2025) (lined 8 []) = .next t := ⟨_, rfl⟩
theorem witness_FrameNewBuildsTheFrame :
    (8#8).toNat ≤ 250 ∧ (8#8).toNat ≤ (lined 8 []).capacity ∧ (8#8).toNat ≤ (List.replicate 8 (1 : Byte)).length ∧
    (250#8).toNat ≤ 250 ∧ (250#8).toNat ≤ (lined 250 []).capacity ∧
    (250#8).toNat ≤ (List.replicate 250 (1 : Byte)).length := by
  refine ⟨by decide, by decide, by decide, by decide, by decide, ?_⟩
  rw [List.length_replicate]
  decide
theorem witness_FrameNewRejectsLengthsOverEitherBound :
    250 < (251#8).toNat ∧ ¬ (lined 255 []).capacity < (251#8).toNat ∧
    (lined 8 []).capacity < (9#8).toNat ∧ ¬ 250 < (9#8).toNat := by decide
theorem witness_FrameNewStopsOnUndrivenData :
    (3#8).toNat ≤ 250 ∧ (3#8).toNat ≤ (lined 8 []).capacity ∧ ([1, 2] : List Byte).length < (3#8).toNat := by decide
theorem witness_FramePaddingIsUnobservable :
    ([1, 2, 7] : List Byte).length = (lined 3 []).capacity ∧ ([1, 2, 8] : List Byte).length = (lined 3 []).capacity ∧
    ∀ k < (2#8).toNat, ([1, 2, 7] : List Byte)[k]? = ([1, 2, 8] : List Byte)[k]? := by decide
theorem witness_SrspFromRawGivesTheCodeOrDecodeError : (4#8).toNat ≤ 4 ∧ 5 ≤ (5#8).toNat := by decide
theorem witness_SrspCodesAndBytesAreInverse : (4#8 : Byte).toNat ≤ 4 := by decide
theorem witness_EveryHeaderLineIsDecodedAsDecodeHeader :
    (lined 8 [⟨.headerType, [0x25, 0x20]⟩]).pending = ⟨.headerType, [0x25, 0x20]⟩ :: [] ∧
    (lined 8 [⟨.headerSubsystem, [0xFF, 0xFF]⟩]).pending = ⟨.headerSubsystem, [0xFF, 0xFF]⟩ :: [] := by decide
theorem witness_DecodedLineMatchesItsTableRow :
    decode ⟨.srspErrorCode, [0x04]⟩ = .ok .invalidLength ∧ decode ⟨.srspErrorCode, [0x05]⟩ = .ok (.srspFromRaw 0x05) := by
  decide
theorem witness_ErrorsAreExactlyThoseOfTheList :
    (∃ t, exec (.ctFromRaw 8) (lined 8 []) = .next t) ∧ (∃ t, exec (.ctFromRaw 7) (lined 8 []) = .next t) :=
  ⟨⟨_, rfl⟩, ⟨_, rfl⟩⟩
theorem witness_ResultAppearsOnItsOwnOutputsOnly : ∃ t, exec (.srspFromRaw 5) (lined 8 []) = .next t := ⟨_, rfl⟩
theorem witness_EvaluatingAgainGivesTheSameResult : ∃ t, exec (.ssFromRaw 32) (lined 8 []) = .next t := ⟨_, rfl⟩
theorem witness_EveryFrameIsAResultOfFrameNew :
    (exampleFrame).length = 3 ∧ (lined 8 []).capacity = 8 := by decide
theorem witness_ExtractIsShiftThenMaskAndMaskThenShift :
    (0 : Nat) ≤ 15 ∧ (15 : Nat) ≤ 15 ∧
    ∀ k, 5 ≤ k → k ≤ 7 → (0x2025#16).getLsbD k = (0x0020#16).getLsbD k := by
  refine ⟨by decide, by decide, fun k h1 h2 => ?_⟩
  interval_cases k <;> rfl
theorem witness_PlaceShiftsWithoutLoss : (8 : Nat) ≤ 15 ∧ (15 : Nat) ≤ 15 ∧ 7 < 8 ∧ 15 < 16 := by decide
theorem witness_NarrowNeverTruncates : (0x00FF#16).toNat < 2 ^ 8 ∧ 2 ^ 8 ≤ (0x0100#16).toNat := by decide
theorem witness_StepRunsTheDecodedInstruction :
    (lined 8 [⟨.operation, [1, 8]⟩]).pending = ⟨.operation, [1, 8]⟩ :: [] ∧
    decode ⟨.operation, [1, 8]⟩ = .ok (.ctFromRaw 8) := by decide
theorem witness_StepRefusesLinesThatDoNotDecode :
    (lined 8 [⟨.operation, [0, 8]⟩]).pending = ⟨.operation, [0, 8]⟩ :: [] ∧
    decode ⟨.operation, [0, 8]⟩ = .error .operandOutsidePort := by decide
theorem witness_DecodeRejectsTagsOutsideTheirPorts :
    (15#8).toNat ≤ 15 ∧ 16 ≤ (16#8).toNat ∧ (7#8).toNat ≤ 7 ∧ 8 ≤ (8#8).toNat ∧ (31#8).toNat ≤ 31 ∧
    32 ≤ (32#8).toNat ∧ (4#8).toNat ≤ 4 ∧ 5 ≤ (5#8).toNat := by decide
theorem witness_DecodeRejectsLinesOfAnotherLength :
    ([] : List Byte).length ≠ 1 ∧ ([0, 0] : List Byte).length ≠ 1 ∧ ([0] : List Byte).length ≠ 2 ∧
    ([0, 0, 0] : List Byte).length ≠ 2 ∧ ([0, 0] : List Byte).length ≠ 3 ∧ ([0, 0, 0, 0] : List Byte).length ≠ 3 ∧
    ([0, 0] : List Byte).length < 3 ∧ ([0] : List Byte).length = 1 ∧ ([0, 0] : List Byte).length = 2 ∧
    3 ≤ ([0, 0, 0] : List Byte).length := by decide
theorem witness_StepWithNothingLinedUpChangesNothing : (lined 8 []).pending = [] := by decide
theorem witness_StepKeepsTheStateLegal :
    (lined 2 [⟨.operation, [13, 2, 0x25, 0x20, 0x34, 0x12]⟩]).legal = true ∧
    ∃ t, step (lined 2 [⟨.operation, [13, 2, 0x25, 0x20, 0x34, 0x12]⟩]) = .next t := ⟨by decide, _, rfl⟩
theorem witness_PresentableLinesNeverStopTheMachine :
    (lined 2 [⟨.operation, [13, 2, 0x25, 0x20, 0x34, 0x12]⟩, ⟨.operation, [1, 8]⟩]).presentable = true := by decide
theorem witness_RunIsTheListOfIndependentResults :
    (lined 8 [⟨.operation, [1, 8]⟩, ⟨.headerType, [0x25, 0x20]⟩, ⟨.srspErrorCode, [0xFF]⟩]).presentable = true := by
  decide
theorem witness_EncodeUndoesDecode :
    decode ⟨.operation, [12, 0x25, 0x20]⟩ = .ok (.decodeHeader 0x2025) ∧
    decode ⟨.srspErrorCode, [0x05]⟩ = .ok (.srspFromRaw 0x05) := by decide
theorem witness_TableWordRunsAsTheNextStep :
    State.reset.capacity = Config.capacity ∧ decodeTableWord 16 0x0020 = some (.syncRequest 0 .rpcError) :=
  ⟨rfl, by decide⟩

end Sys2Proof.Tests
end

namespace Sys2Proof.Machine

/-! ## The two byte order helpers of R31 -/

theorem wordFromBytes_eq_or (b0 b1 : Byte) :
    wordFromBytes b0 b1 = (b1.setWidth 16 <<< 8) ||| b0.setWidth 16 := by
  refine BitVec.eq_of_getLsbD_eq fun k below => ?_
  simp only [wordFromBytes, BitVec.getLsbD_append, BitVec.getLsbD_or, BitVec.getLsbD_shiftLeft, BitVec.getLsbD_setWidth]
  by_cases low : k < 8
  · have inWord : k < 16 := by omega
    simp [low, inWord]
  · have inWord : k - 8 < 16 := by omega
    simp [low, below, inWord, BitVec.getLsbD_of_ge b0 k (Nat.le_of_not_lt low)]

theorem toNat_bytesFromWord_fst (w : HeaderWord) : (bytesFromWord w).1.toNat = w.toNat % 256 :=
  BitVec.toNat_setWidth ..

theorem toNat_bytesFromWord_snd (w : HeaderWord) : (bytesFromWord w).2.toNat = w.toNat / 256 := by
  have inWord := w.isLt
  simp only [bytesFromWord, BitVec.toNat_setWidth, BitVec.toNat_ushiftRight, Nat.shiftRight_eq_div_pow]
  omega

@[simp] theorem bytesFromWord_wordFromBytes (b0 b1 : Byte) : bytesFromWord (wordFromBytes b0 b1) = (b0, b1) := by
  have low := b0.isLt
  refine Prod.ext (BitVec.eq_of_toNat_eq ?_) (BitVec.eq_of_toNat_eq ?_)
  · calc (bytesFromWord (wordFromBytes b0 b1)).1.toNat
        = (b1.toNat * 256 + b0.toNat) % 256 := by rw [toNat_bytesFromWord_fst, toNat_wordFromBytes]
      _ = b0.toNat := by omega
  · calc (bytesFromWord (wordFromBytes b0 b1)).2.toNat
        = (b1.toNat * 256 + b0.toNat) / 256 := by rw [toNat_bytesFromWord_snd, toNat_wordFromBytes]
      _ = b1.toNat := by omega

@[simp] theorem wordFromBytes_bytesFromWord (w : HeaderWord) :
    wordFromBytes (bytesFromWord w).1 (bytesFromWord w).2 = w := by
  apply BitVec.eq_of_toNat_eq
  rw [toNat_wordFromBytes, toNat_bytesFromWord_fst, toNat_bytesFromWord_snd]
  omega

/-- Settles O41: each clause is one law of the two helpers. -/
theorem headerWordIsLowByteFirst : Obligations.HeaderWordIsLowByteFirst :=
  ⟨fun b0 b1 =>
    ⟨rfl, wordFromBytes_eq_or b0 b1, toNat_wordFromBytes b0 b1, bytesFromWord_wordFromBytes b0 b1⟩,
   fun w =>
    ⟨toNat_bytesFromWord_fst w, toNat_bytesFromWord_snd w, wordFromBytes_bytesFromWord w⟩⟩

/-! ## What an evaluation depends on -/

/-- What an instruction answers is fixed by the instruction and the capacity (R41): it adds one outcome on its own
outputs, the same whatever is lined up and whatever was evaluated before, or it stops in each of these states. Only
`FRAME_NEW` can stop, on undriven data (log 8), and that test reads no other part of the state either. -/
theorem exec_uniform (i : Instr) (s : State) :
    (∃ o : Except ErrorKind (Value s.capacity),
      exec i s = .next (s.after i.outputGroup o) ∧
      ∀ pending results, exec i ⟨s.capacity, pending, results⟩ =
        .next (State.after ⟨s.capacity, pending, results⟩ i.outputGroup o)) ∨
    (exec i s = .fault .payloadNotDriven ∧
      ∀ pending results, exec i ⟨s.capacity, pending, results⟩ = .fault .payloadNotDriven) := by
  cases i with
  | frameNew length h payload =>
    by_cases undriven : dataUndriven s.capacity length payload = true
    · exact .inr ⟨if_pos undriven, fun _ _ => if_pos undriven⟩
    · exact .inl ⟨_, (if_neg undriven).trans (finish_eq_next ..),
        fun _ _ => (if_neg undriven).trans (finish_eq_next ..)⟩
  -- the operations that return a plain value, and the five rows of the SRSP table
  | ctRaw | ssRaw | pbfGetType | pbfGetSubsys | pbfGetId | encodeHeader | srspRaw
  | ok | invalidSubsystem | invalidCommandId | invalidParameter | invalidLength =>
    exact .inl ⟨.ok _, rfl, fun _ _ => rfl⟩
  -- the operations whose result type has an error kind
  | ctFromRaw | ssFromRaw | viewFirstByte | viewType | viewSubsys | viewCmdId | decodeHeader | srspFromRaw =>
    exact .inl ⟨_, finish_eq_next .., fun _ _ => finish_eq_next ..⟩
  -- the rows of the two header tables
  | _ => exact .inl ⟨_, receiveHeader_eq_next .., fun _ _ => receiveHeader_eq_next ..⟩

/-- Settles O40: the second evaluation meets a state of the same capacity, so it adds the same outcome. -/
theorem evaluatingAgainGivesTheSameResult : Obligations.EvaluatingAgainGivesTheSameResult := by
  intro i s t answers
  obtain ⟨o, adds, addsAgain⟩ | ⟨stops, -⟩ := exec_uniform i s
  · obtain rfl : s.after i.outputGroup o = t := Host.Outcome.next.inj (adds.symm.trans answers)
    refine ⟨⟨i.outputGroup, o⟩, _, addsAgain _ _, rfl, ?_⟩
    simp [State.after]
  · cases stops.symm.trans answers

end Sys2Proof.Machine

namespace Sys2Proof.Machine

/-! ## The header word and its three fields (R52, R53)

A word holds its fields in disjoint ranges that fill it, so reading the fields and packing them are inverse. -/

@[simp] theorem commandType_raw_ofRaw (n : BitVec 3) : (CommandType.ofRaw n).raw = n := by
  revert n
  decide

@[simp] theorem commandType_ofRaw_raw (t : CommandType) : CommandType.ofRaw t.raw = t := by
  cases t <;> rfl

@[simp] theorem subsystem_raw_ofRaw (n : BitVec 5) : (Subsystem.ofRaw n).raw = n := by
  revert n
  decide

@[simp] theorem subsystem_ofRaw_raw (s : Subsystem) : Subsystem.ofRaw s.raw = s := by
  cases s <;> rfl

theorem packHeader_eq_append (t : CommandType) (s : Subsystem) (id : CommandId) :
    packHeader t s id = id ++ t.raw ++ s.raw := by
  refine BitVec.eq_of_getLsbD_eq fun k below => ?_
  simp only [packHeader, BitVec.getLsbD_or, place_getLsbD, BitVec.getLsbD_append]
  by_cases inSubsys : k < 5
  · simp [inSubsys, below, show k < 8 by omega]
  · have aboveSubsys := BitVec.getLsbD_of_ge s.raw k (Nat.le_of_not_lt inSubsys)
    by_cases inType : k < 8
    · simp [inSubsys, inType, below, aboveSubsys, show k - 5 < 3 by omega]
    · have aboveType := BitVec.getLsbD_of_ge t.raw (k - 5) (by omega)
      simp [inSubsys, inType, below, aboveSubsys, aboveType, show ¬ k - 5 < 3 by omega, Nat.sub_sub]

theorem toNat_packHeader (t : CommandType) (s : Subsystem) (id : CommandId) :
    (packHeader t s id).toNat = id.toNat * 256 + t.raw.toNat * 32 + s.raw.toNat := by
  rw [packHeader_eq_append, BitVec.toNat_append, BitVec.toNat_append, ← Nat.shiftLeft_add_eq_or_of_lt s.raw.isLt,
    ← Nat.shiftLeft_add_eq_or_of_lt t.raw.isLt, Nat.shiftLeft_eq, Nat.shiftLeft_eq]
  omega

@[simp] theorem extractType_packHeader (t : CommandType) (s : Subsystem) (id : CommandId) :
    extractType (packHeader t s id) = t.raw := by
  apply BitVec.eq_of_toNat_eq
  rw [toNat_extractType, toNat_packHeader]
  omega

@[simp] theorem extractSubsys_packHeader (t : CommandType) (s : Subsystem) (id : CommandId) :
    extractSubsys (packHeader t s id) = s.raw := by
  apply BitVec.eq_of_toNat_eq
  rw [toNat_extractSubsys, toNat_packHeader]
  omega

@[simp] theorem extractId_packHeader (t : CommandType) (s : Subsystem) (id : CommandId) :
    extractId (packHeader t s id) = id := by
  apply BitVec.eq_of_toNat_eq
  rw [toNat_extractId, toNat_packHeader]
  omega

@[simp] theorem pbfGetType_encodeHeader (t : CommandType) (s : Subsystem) (id : CommandId) :
    pbfGetType (encodeHeader t s id) = t := by
  simp [pbfGetType, encodeHeader]

@[simp] theorem pbfGetSubsys_encodeHeader (t : CommandType) (s : Subsystem) (id : CommandId) :
    pbfGetSubsys (encodeHeader t s id) = s := by
  simp [pbfGetSubsys, encodeHeader]

@[simp] theorem pbfGetId_encodeHeader (t : CommandType) (s : Subsystem) (id : CommandId) :
    pbfGetId (encodeHeader t s id) = id := by
  simp [pbfGetId, encodeHeader]

/-- The three ranges of R100 fill the word: no bit of it is lost by reading its fields. -/
@[simp] theorem encodeHeader_fields (w : HeaderWord) :
    encodeHeader (pbfGetType w) (pbfGetSubsys w) (pbfGetId w) = w := by
  apply BitVec.eq_of_toNat_eq
  calc (encodeHeader (pbfGetType w) (pbfGetSubsys w) (pbfGetId w)).toNat
      = w.toNat / 256 * 256 + w.toNat / 32 % 8 * 32 + w.toNat % 32 := by
        simp [encodeHeader, toNat_packHeader, pbfGetType, pbfGetSubsys, pbfGetId, toNat_extractType,
          toNat_extractSubsys, toNat_extractId]
    _ = w.toNat := by omega

/-! ## The view of a received word

Both halves of a 16-bit word fit in a byte, so `narrow` never raises here (R131) and each accessor is the field read of
the same name. -/

theorem narrow_of_lt {N m : Nat} {v : BitVec m} (fits : v.toNat < 2 ^ N) : narrow N v = .ok (v.setWidth N) :=
  if_neg (Nat.not_le_of_lt fits)

theorem viewFirstByte_eq_ok (w : HeaderWord) : viewFirstByte w = .ok (w.setWidth 8) := by
  have masked : (w &&& 0x00FF#16).toNat = w.toNat % 256 := by
    rw [BitVec.toNat_and]
    exact Nat.and_two_pow_sub_one_eq_mod _ 8
  have fits : (w &&& 0x00FF#16).toNat < 2 ^ 8 := by omega
  have lowByte : (w &&& 0x00FF#16).setWidth 8 = w.setWidth 8 :=
    BitVec.eq_of_toNat_eq (by simp only [BitVec.toNat_setWidth, masked]; omega)
  rw [viewFirstByte, narrow_of_lt fits, lowByte]

theorem viewType_eq_ok (w : HeaderWord) : viewType w = .ok (pbfGetType w) := by
  have bits7To5 : ((w.setWidth 8 &&& 0xE0#8) >>> 5).setWidth 3 = extractType w := by
    refine BitVec.eq_of_getLsbD_eq fun k below => ?_
    rw [extractType, extract_getLsbD]
    interval_cases k <;> simp
  simp only [viewType, viewFirstByte_eq_ok, bits7To5, pbfGetType]

theorem viewSubsys_eq_ok (w : HeaderWord) : viewSubsys w = .ok (pbfGetSubsys w) := by
  have bits4To0 : (w.setWidth 8 &&& 0x1F#8).setWidth 5 = extractSubsys w := by
    refine BitVec.eq_of_getLsbD_eq fun k below => ?_
    rw [extractSubsys, extract_getLsbD]
    interval_cases k <;> simp
  simp only [viewSubsys, viewFirstByte_eq_ok, bits4To0, pbfGetSubsys]

theorem viewCmdId_eq_ok (w : HeaderWord) : viewCmdId w = .ok (pbfGetId w) := by
  have inWord := w.isLt
  have fits : (w >>> 8).toNat < 2 ^ 8 := by
    rw [BitVec.toNat_ushiftRight, Nat.shiftRight_eq_div_pow]
    omega
  exact narrow_of_lt fits

theorem decodeHeader_eq_ok (w : HeaderWord) :
    decodeHeader w = .ok (pbfGetType w, pbfGetSubsys w, pbfGetId w) := by
  simp only [decodeHeader, viewType_eq_ok, viewSubsys_eq_ok, viewCmdId_eq_ok]

/-- Decoding and encoding are one relation between words and triples, read from either side (R117, R132). -/
theorem decodeHeader_eq_ok_iff (w : HeaderWord) (x : CommandType × Subsystem × CommandId) :
    decodeHeader w = .ok x ↔ encodeHeader x.1 x.2.1 x.2.2 = w := by
  rw [decodeHeader_eq_ok]
  constructor
  · rintro ⟨⟩
    exact encodeHeader_fields w
  · rintro rfl
    simp

/-- Settles O22: a word's one triple is what its fields read, and a triple's one word is its encoding. -/
theorem headerWordsAndTriplesCorrespond : Obligations.HeaderWordsAndTriplesCorrespond := by
  refine ⟨fun w => ?_, fun x => ?_⟩
  · refine ⟨_, decodeHeader_eq_ok w, fun x decodes => ?_⟩
    exact Except.ok.inj (decodes.symm.trans (decodeHeader_eq_ok w))
  · refine ⟨encodeHeader x.1 x.2.1 x.2.2, (decodeHeader_eq_ok_iff _ x).2 rfl, fun w decodes => ?_⟩
    exact ((decodeHeader_eq_ok_iff w x).1 decodes).symm

end Sys2Proof.Machine

namespace Sys2Proof.Machine

/-! ## The two enumerations and their raw values (R54, R55)

A raw value operation has no error case: on every tag it adds that tag's entry of the raw column. -/

theorem exec_ctRaw (t : CommandType) (s : State) :
    exec (.ctRaw t) s = .next (s.after .ctRaw (.ok (.rawType t.raw))) :=
  finish_eq_next s .ctRaw (.ok (.rawType t.raw))

theorem exec_ssRaw (sub : Subsystem) (s : State) :
    exec (.ssRaw sub) s = .next (s.after .ssRaw (.ok (.rawSubsystem sub.raw))) :=
  finish_eq_next s .ssRaw (.ok (.rawSubsystem sub.raw))

theorem commandType_raw_injective : Function.Injective CommandType.raw :=
  Function.LeftInverse.injective commandType_ofRaw_raw

theorem subsystem_raw_injective : Function.Injective Subsystem.raw :=
  Function.LeftInverse.injective subsystem_ofRaw_raw

/-- Settles O1: each clause is `CT_RAW` on one tag, with that tag's row of the raw column read off. -/
theorem ctRawGivesTheTablePosition : Obligations.CtRawGivesTheTablePosition := by
  intro st
  and_intros <;> exact exec_ctRaw _ st

/-- Settles O3: each clause is `SS_RAW` on one tag, with that tag's row of the raw column read off. -/
theorem ssRawGivesTheTablePosition : Obligations.SsRawGivesTheTablePosition := by
  intro st
  and_intros <;> exact exec_ssRaw _ st

/-- Settles O5: both round trips hold for each enumeration, and a function with a left inverse is injective. -/
theorem enumerationsAndRawValuesAreInverse : Obligations.EnumerationsAndRawValuesAreInverse :=
  ⟨commandType_raw_ofRaw, commandType_ofRaw_raw, subsystem_raw_ofRaw, subsystem_ofRaw_raw,
    commandType_raw_injective, subsystem_raw_injective⟩

end Sys2Proof.Machine

namespace Sys2Proof.Machine

/-! ## Ranges of a word (R101, R102)

A range is read and written bit by bit; the two masks of R101 are known by their bits as well. -/

theorem toNat_extract (w : HeaderWord) (hi lo : Nat) :
    (extract w hi lo).toNat = w.toNat / 2 ^ lo % 2 ^ (hi - lo + 1) := by
  rw [extract, BitVec.toNat_setWidth, BitVec.toNat_ushiftRight, Nat.shiftRight_eq_div_pow]

/-- The mask of `n` ones whose lowest one is bit `lo`. -/
theorem getLsbD_onesShifted (n lo k : Nat) :
    (BitVec.ofNat 16 ((2 ^ n - 1) * 2 ^ lo)).getLsbD k = decide (k < 16 ∧ lo ≤ k ∧ k - lo < n) := by
  rw [BitVec.getLsbD_ofNat, Nat.testBit_mul_two_pow, Nat.testBit_two_pow_sub_one, Bool.decide_and, Bool.decide_and]

theorem getLsbD_ones (n k : Nat) : (BitVec.ofNat 16 (2 ^ n - 1)).getLsbD k = decide (k < 16 ∧ k < n) := by
  simpa using getLsbD_onesShifted n 0 k

theorem extract_eq_shift_then_mask (w : HeaderWord) (hi lo : Nat) :
    (extract w hi lo).setWidth 16 = (w >>> lo) &&& BitVec.ofNat 16 (2 ^ (hi - lo + 1) - 1) := by
  refine BitVec.eq_of_getLsbD_eq fun k below => ?_
  rw [BitVec.getLsbD_setWidth, extract_getLsbD, BitVec.getLsbD_and, BitVec.getLsbD_ushiftRight, getLsbD_ones]
  simp [below, Bool.and_comm]

/-- The mask stands where the range does, so the shift moves both; what it brings in from above bit 15 is 0. -/
theorem extract_eq_mask_then_shift (w : HeaderWord) (hi lo : Nat) :
    (extract w hi lo).setWidth 16 =
      (w &&& BitVec.ofNat 16 ((2 ^ (hi - lo + 1) - 1) * 2 ^ lo)) >>> lo := by
  refine BitVec.eq_of_getLsbD_eq fun k below => ?_
  rw [BitVec.getLsbD_setWidth, extract_getLsbD, BitVec.getLsbD_ushiftRight, BitVec.getLsbD_and, getLsbD_onesShifted]
  by_cases inWord : lo + k < 16
  · simp [below, inWord, Bool.and_comm]
  · simp [BitVec.getLsbD_of_ge w (lo + k) (Nat.le_of_not_lt inWord)]

/-- Bits outside the range have no influence on the result. -/
theorem extract_congr {w w' : HeaderWord} {hi lo : Nat} (ordered : lo ≤ hi)
    (agree : ∀ k, lo ≤ k → k ≤ hi → w.getLsbD k = w'.getLsbD k) : extract w hi lo = extract w' hi lo := by
  refine BitVec.eq_of_getLsbD_eq fun k below => ?_
  rw [extract_getLsbD, extract_getLsbD, agree (lo + k) (by omega) (by omega)]

/-- Settles O43: the two forms agree with `extract` bit by bit, and only bits of the range are read. -/
theorem extractIsShiftThenMaskAndMaskThenShift : Obligations.ExtractIsShiftThenMaskAndMaskThenShift :=
  fun w _ hi lo ordered _ =>
    ⟨extract_eq_shift_then_mask w hi lo, extract_eq_mask_then_shift w hi lo, toNat_extract w hi lo,
      extract_congr ordered⟩

/-- The range lies inside the word, so the shift loses no bit of the value. -/
theorem toNat_place {hi lo : Nat} (v : BitVec (hi - lo + 1)) (ordered : lo ≤ hi) (inWord : hi ≤ 15) :
    (place hi lo v).toNat = v.toNat * 2 ^ lo := by
  have fits : v.toNat * 2 ^ lo < 2 ^ 16 :=
    calc v.toNat * 2 ^ lo
        < 2 ^ (hi - lo + 1) * 2 ^ lo := Nat.mul_lt_mul_of_pos_right v.isLt (Nat.two_pow_pos lo)
      _ = 2 ^ (hi + 1) := by rw [← Nat.pow_add]; congr 1; omega
      _ ≤ 2 ^ 16 := Nat.pow_le_pow_right (by decide) (by omega)
  have valueInWord : v.toNat < 2 ^ 16 := Nat.lt_of_le_of_lt (Nat.le_mul_of_pos_right _ (Nat.two_pow_pos lo)) fits
  rw [place, BitVec.toNat_shiftLeft, BitVec.toNat_setWidth, Nat.shiftLeft_eq, Nat.mod_eq_of_lt valueInWord,
    Nat.mod_eq_of_lt fits]

theorem place_getLsbD_of_outside {hi lo k : Nat} (v : BitVec (hi - lo + 1)) (ordered : lo ≤ hi)
    (outside : k < lo ∨ hi < k) : (place hi lo v).getLsbD k = false := by
  rw [place_getLsbD]
  obtain below | above := outside
  · simp [below]
  · simp [BitVec.getLsbD_of_ge v (k - lo) (by omega)]

/-- Settles O44: the shift is `place` itself, and the range's place in the word gives the two other clauses. -/
theorem placeShiftsWithoutLoss : Obligations.PlaceShiftsWithoutLoss :=
  fun _ _ v ordered inWord =>
    ⟨rfl, toNat_place v ordered inWord, fun _ outside => place_getLsbD_of_outside v ordered outside⟩

/-! ## The three field reads of the packed word (R103, R104, R105)

Every pattern of a field is a tag or an id, so the reads have no error case. -/

theorem exec_pbfGetType (h : CommandHeader) (s : State) :
    exec (.pbfGetType h) s = .next (s.after .pbfGetType (.ok (.type (pbfGetType h)))) :=
  finish_eq_next s .pbfGetType (.ok (.type (pbfGetType h)))

theorem exec_pbfGetSubsys (h : CommandHeader) (s : State) :
    exec (.pbfGetSubsys h) s = .next (s.after .pbfGetSubsys (.ok (.subsystem (pbfGetSubsys h)))) :=
  finish_eq_next s .pbfGetSubsys (.ok (.subsystem (pbfGetSubsys h)))

theorem exec_pbfGetId (h : CommandHeader) (s : State) :
    exec (.pbfGetId h) s = .next (s.after .pbfGetId (.ok (.commandId (pbfGetId h)))) :=
  finish_eq_next s .pbfGetId (.ok (.commandId (pbfGetId h)))

theorem toNat_raw_pbfGetType (h : CommandHeader) : (pbfGetType h).raw.toNat = h.toNat / 32 % 8 := by
  rw [pbfGetType, commandType_raw_ofRaw, toNat_extractType]

theorem toNat_raw_pbfGetSubsys (h : CommandHeader) : (pbfGetSubsys h).raw.toNat = h.toNat % 32 := by
  rw [pbfGetSubsys, subsystem_raw_ofRaw, toNat_extractSubsys]

/-- Settles O6: the tag is the field read, whose raw value is the extracted range. -/
theorem pbfGetTypeReadsBits7To5 : Obligations.PbfGetTypeReadsBits7To5 :=
  fun h st => ⟨pbfGetType h, toNat_raw_pbfGetType h, exec_pbfGetType h st⟩

/-- Settles O7: the tag is the field read, whose raw value is the extracted range. -/
theorem pbfGetSubsysReadsBits4To0 : Obligations.PbfGetSubsysReadsBits4To0 :=
  fun h st => ⟨pbfGetSubsys h, toNat_raw_pbfGetSubsys h, exec_pbfGetSubsys h st⟩

/-- Settles O8: the id is the field read, and an id is read back from any header that was encoded with it. -/
theorem pbfGetIdReadsBits15To8 : Obligations.PbfGetIdReadsBits15To8 := by
  refine ⟨fun h st => ⟨pbfGetId h, toNat_extractId h, exec_pbfGetId h st⟩, fun id st => ?_⟩
  refine ⟨encodeHeader .poll .rpcError id, ?_⟩
  rw [exec_pbfGetId, pbfGetId_encodeHeader]

end Sys2Proof.Machine

namespace Sys2Proof.Machine

/-! ## Packing three fields (R115)

The three ranges are disjoint, so combining the placed fields with OR or with exclusive OR is the same; and the cut
between the ranges of id and type is the cut between the word's two bytes. -/

theorem or_eq_xor_of_and_eq_zero {n : Nat} {x y : BitVec n} (disjoint : x &&& y = 0#n) : x ||| y = x ^^^ y := by
  refine BitVec.eq_of_getLsbD_eq fun k _ => ?_
  have notBoth : (x.getLsbD k && y.getLsbD k) = false := by
    rw [← BitVec.getLsbD_and, disjoint, BitVec.getLsbD_zero]
  rw [BitVec.getLsbD_or, BitVec.getLsbD_xor]
  cases inX : x.getLsbD k
  · simp
  · simpa [inX] using notBoth

/-- Of two ranges that do not meet, every bit of the word is outside at least one. -/
theorem place_and_place_of_disjoint {hi lo hi' lo' : Nat} {v : BitVec (hi - lo + 1)} {v' : BitVec (hi' - lo' + 1)}
    (ordered : lo ≤ hi) (ordered' : lo' ≤ hi') (apart : hi' < lo) : place hi lo v &&& place hi' lo' v' = 0#16 := by
  refine BitVec.eq_of_getLsbD_eq fun k _ => ?_
  rw [BitVec.getLsbD_and, BitVec.getLsbD_zero]
  by_cases below : k < lo
  · rw [place_getLsbD_of_outside v ordered (.inl below), Bool.false_and]
  · rw [place_getLsbD_of_outside v' ordered' (.inr (by omega)), Bool.and_false]

theorem packHeader_eq_or_shifted (t : CommandType) (s : Subsystem) (id : CommandId) :
    packHeader t s id = (id.setWidth 16 <<< 8) ||| (t.raw.setWidth 16 <<< 5) ||| s.raw.setWidth 16 := by
  simp only [packHeader, place, BitVec.shiftLeft_zero]

theorem packHeader_eq_xor (t : CommandType) (s : Subsystem) (id : CommandId) :
    packHeader t s id = place 15 8 id ^^^ place 7 5 t.raw ^^^ place 4 0 s.raw := by
  have idApartType : place 15 8 id &&& place 7 5 t.raw = 0#16 :=
    place_and_place_of_disjoint (by decide) (by decide) (by decide)
  have idApartSubsys : place 15 8 id &&& place 4 0 s.raw = 0#16 :=
    place_and_place_of_disjoint (by decide) (by decide) (by decide)
  have typeApartSubsys : place 7 5 t.raw &&& place 4 0 s.raw = 0#16 :=
    place_and_place_of_disjoint (by decide) (by decide) (by decide)
  have idApartLowByte : place 15 8 id &&& (place 7 5 t.raw ||| place 4 0 s.raw) = 0#16 := by
    rw [BitVec.and_or_distrib_left, idApartType, idApartSubsys, BitVec.or_self]
  rw [packHeader, BitVec.or_assoc, or_eq_xor_of_and_eq_zero idApartLowByte, or_eq_xor_of_and_eq_zero typeApartSubsys,
    BitVec.xor_assoc]

theorem packHeader_eq_xor_shifted (t : CommandType) (s : Subsystem) (id : CommandId) :
    packHeader t s id = (id.setWidth 16 <<< 8) ^^^ (t.raw.setWidth 16 <<< 5) ^^^ s.raw.setWidth 16 := by
  rw [packHeader_eq_xor]
  simp only [place, BitVec.shiftLeft_zero]

theorem packHeader_eq_wordFromBytes (t : CommandType) (s : Subsystem) (id : CommandId) :
    packHeader t s id = wordFromBytes (t.raw ++ s.raw) id := by
  rw [packHeader_eq_append, BitVec.append_assoc]
  rfl

@[simp] theorem bytesFromWord_packHeader (t : CommandType) (s : Subsystem) (id : CommandId) :
    bytesFromWord (packHeader t s id) = (t.raw ++ s.raw, id) := by
  rw [packHeader_eq_wordFromBytes, bytesFromWord_wordFromBytes]

theorem exec_encodeHeader (t : CommandType) (sub : Subsystem) (id : CommandId) (s : State) :
    exec (.encodeHeader t sub id) s = .next (s.after .encodeHeader (.ok (.headerWord (encodeHeader t sub id)))) :=
  finish_eq_next s .encodeHeader (.ok (.headerWord (encodeHeader t sub id)))

/-- Settles O9: the added word is the packed header, and each other clause is one form of that word. -/
theorem encodeHeaderPacksTheThreeFields : Obligations.EncodeHeaderPacksTheThreeFields :=
  fun t s id st =>
    ⟨packHeader t s id, exec_encodeHeader t s id st, packHeader_eq_append t s id, packHeader_eq_or_shifted t s id,
      packHeader_eq_xor_shifted t s id, toNat_packHeader t s id, bytesFromWord_packHeader t s id⟩

theorem exec_decodeHeader (w : HeaderWord) (s : State) :
    exec (.decodeHeader w) s =
      .next (s.after .decodeHeader (.ok (.fields (pbfGetType w) (pbfGetSubsys w) (pbfGetId w)))) := by
  calc exec (.decodeHeader w) s
      = .next (s.after .decodeHeader ((decodeHeader w).map fieldsValue)) := finish_eq_next ..
    _ = _ := by rw [decodeHeader_eq_ok]; rfl

/-- Settles O10: decoding any word adds its three field reads, and those of an encoded triple are the triple. -/
theorem decodeHeaderUndoesEncodeHeader : Obligations.DecodeHeaderUndoesEncodeHeader := by
  intro t s id st
  rw [exec_decodeHeader, pbfGetType_encodeHeader, pbfGetSubsys_encodeHeader, pbfGetId_encodeHeader]

end Sys2Proof.Machine

namespace Sys2Proof.Machine

/-! ## Reading a received word (R129, R132)

No view of a 16-bit word raises, so decoding reads exactly the three fields that fill the word. -/

/-- Settles O20: the triple is what the word's three fields read, and those fields fill the word. -/
theorem encodeHeaderUndoesDecodeHeader : Obligations.EncodeHeaderUndoesDecodeHeader :=
  fun w => ⟨pbfGetType w, pbfGetSubsys w, pbfGetId w, decodeHeader_eq_ok w, encodeHeader_fields w⟩

theorem exec_viewCmdId (w : HeaderWord) (s : State) :
    exec (.viewCmdId w) s = .next (s.after .viewCmdId (.ok (.commandId (pbfGetId w)))) := by
  calc exec (.viewCmdId w) s
      = .next (s.after .viewCmdId ((viewCmdId w).map .commandId)) := finish_eq_next ..
    _ = _ := by rw [viewCmdId_eq_ok]; rfl

/-- Settles O17: the view reads the id field, and an id is read back from any word that was encoded with it. -/
theorem viewCmdIdIsTheHighByte : Obligations.ViewCmdIdIsTheHighByte := by
  refine ⟨fun w st => ⟨pbfGetId w, toNat_extractId w, exec_viewCmdId w st⟩, fun id st => ?_⟩
  refine ⟨encodeHeader .poll .rpcError id, ?_⟩
  rw [exec_viewCmdId, pbfGetId_encodeHeader]

end Sys2Proof.Machine

namespace Sys2Proof.Machine

/-! ## The SRSP codes and their bytes (R149, R150, R151)

The five bytes below 5 are the numbers of `Fin 5`, where reading a byte to its code and writing the code back undo each
other. -/

theorem toNat_srspRaw_ofRaw (n : Fin 5) : (srspRaw (SRSPErrorCode.ofRaw n)).toNat = n := by
  revert n
  decide

theorem srspFromRaw_of_le {b : RawByte} (tagged : b.toNat ≤ 4) :
    srspFromRaw b = .ok (SRSPErrorCode.ofRaw ⟨b.toNat, Nat.lt_succ_of_le tagged⟩) :=
  dif_neg tagged.not_gt

theorem srspRaw_of_srspFromRaw {b : RawByte} {e : SRSPErrorCode} (reads : srspFromRaw b = .ok e) : srspRaw e = b := by
  unfold srspFromRaw at reads
  split at reads
  · contradiction
  · obtain rfl := Except.ok.inj reads
    exact BitVec.eq_of_toNat_eq (toNat_srspRaw_ofRaw _)

@[simp] theorem srspFromRaw_srspRaw (e : SRSPErrorCode) : srspFromRaw (srspRaw e) = .ok e := by
  cases e <;> rfl

/-- Two codes with one byte are what that byte reads to. -/
theorem srspRaw_injective : Function.Injective srspRaw := by
  intro e e' sameByte
  apply Except.ok.inj (ε := ErrorKind)
  calc .ok e = srspFromRaw (srspRaw e) := (srspFromRaw_srspRaw e).symm
    _ = srspFromRaw (srspRaw e') := by rw [sameByte]
    _ = .ok e' := srspFromRaw_srspRaw e'

theorem mem_srspErrorCodes (e : SRSPErrorCode) :
    e ∈ [SRSPErrorCode.ok, .invalidSubsystem, .invalidCommandId, .invalidParameter, .invalidLength] := by
  cases e <;> decide

/-- Settles O31: a byte up to 4 reads to a code, whose byte is the one read; the other round trip makes the bytes
distinct. -/
theorem srspCodesAndBytesAreInverse : Obligations.SrspCodesAndBytesAreInverse := by
  refine ⟨fun b tagged => ?_, srspFromRaw_srspRaw, srspRaw_injective, mem_srspErrorCodes⟩
  have reads := srspFromRaw_of_le tagged
  exact ⟨_, reads, srspRaw_of_srspFromRaw reads⟩

end Sys2Proof.Machine

namespace Sys2Proof.Machine

/-! ## The operations that can return an error (R81, R83, R145, R150)

Each has one bound, or two, on its input; the equations say which side of it answers what. -/

/-- The end of an evaluation by a function that gives a value here. -/
theorem finish_map_of_ok {α : Type} {s : State} {op : Operation} {x : Except ErrorKind α} {f : α → Value s.capacity}
    {a : α} (gives : x = .ok a) : s.finish op (x.map f) = .next (s.after op (.ok (f a))) := by
  rw [gives]
  exact finish_eq_next ..

/-- The end of an evaluation by a function that raises here. -/
theorem finish_map_of_error {α : Type} {s : State} {op : Operation} {x : Except ErrorKind α}
    {f : α → Value s.capacity} {k : ErrorKind} (raises : x = .error k) :
    s.finish op (x.map f) = .next (s.after op (.error k)) := by
  rw [raises]
  exact finish_eq_next ..

theorem ctFromRaw_of_le {n : RawByte} (named : n.toNat ≤ 7) :
    ctFromRaw n = .ok (CommandType.ofRaw (n.setWidth 3)) :=
  if_neg named.not_gt

theorem ctFromRaw_of_ge {n : RawByte} (unnamed : 8 ≤ n.toNat) : ctFromRaw n = .error .outOfRangeConstruction :=
  if_pos unnamed

theorem exec_ctFromRaw (n : RawByte) (s : State) :
    exec (.ctFromRaw n) s = .next (s.after .ctFromRaw ((ctFromRaw n).map .type)) :=
  finish_eq_next ..

theorem ssFromRaw_of_le {n : RawByte} (named : n.toNat ≤ 31) :
    ssFromRaw n = .ok (Subsystem.ofRaw (n.setWidth 5)) :=
  if_neg named.not_gt

theorem ssFromRaw_of_ge {n : RawByte} (unnamed : 32 ≤ n.toNat) : ssFromRaw n = .error .outOfRangeConstruction :=
  if_pos unnamed

theorem exec_ssFromRaw (n : RawByte) (s : State) :
    exec (.ssFromRaw n) s = .next (s.after .ssFromRaw ((ssFromRaw n).map .subsystem)) :=
  finish_eq_next ..

theorem srspFromRaw_of_ge {b : RawByte} (untagged : 5 ≤ b.toNat) : srspFromRaw b = .error .decodeError :=
  dif_pos untagged

theorem exec_srspFromRaw (b : RawByte) (s : State) :
    exec (.srspFromRaw b) s = .next (s.after .srspFromRaw ((srspFromRaw b).map .srspCode)) :=
  finish_eq_next ..

/-- The cut to the width of the tags keeps the number of a byte that names one. -/
theorem toNat_raw_ofRaw_setWidth_three {b : Byte} (fits : b.toNat ≤ 7) :
    (CommandType.ofRaw (b.setWidth 3)).raw.toNat = b.toNat := by
  rw [commandType_raw_ofRaw, BitVec.toNat_setWidth]
  omega

theorem toNat_raw_ofRaw_setWidth_five {b : Byte} (fits : b.toNat ≤ 31) :
    (Subsystem.ofRaw (b.setWidth 5)).raw.toNat = b.toNat := by
  rw [subsystem_raw_ofRaw, BitVec.toNat_setWidth]
  omega

/-- Settles O2: the cut to 3 bits keeps a number below 8, and the tag at that place has it as its raw value. -/
theorem ctFromRawGivesTheTagOrOutOfRange : Obligations.CtFromRawGivesTheTagOrOutOfRange := by
  refine fun n st => ⟨fun named => ⟨_, toNat_raw_ofRaw_setWidth_three named, ?_⟩, fun unnamed => ?_⟩
  · exact finish_map_of_ok (ctFromRaw_of_le named)
  · exact finish_map_of_error (ctFromRaw_of_ge unnamed)

/-- Settles O4: the cut to 5 bits keeps a number below 32, and the tag at that place has it as its raw value. -/
theorem ssFromRawGivesTheTagOrOutOfRange : Obligations.SsFromRawGivesTheTagOrOutOfRange := by
  refine fun n st => ⟨fun named => ⟨_, toNat_raw_ofRaw_setWidth_five named, ?_⟩, fun unnamed => ?_⟩
  · exact finish_map_of_ok (ssFromRaw_of_le named)
  · exact finish_map_of_error (ssFromRaw_of_ge unnamed)

/-- Settles O30: a byte below 5 reads to the code that has it, and every other byte is a decode error. -/
theorem srspFromRawGivesTheCodeOrDecodeError : Obligations.SrspFromRawGivesTheCodeOrDecodeError := by
  refine fun b st => ⟨fun tagged => ?_, fun untagged => ?_⟩
  · have reads := srspFromRaw_of_le tagged
    exact ⟨_, srspRaw_of_srspFromRaw reads, finish_map_of_ok reads⟩
  · exact finish_map_of_error (srspFromRaw_of_ge untagged)

/-- Settles O24: with the length within both bounds and the data bytes driven, only the second way to end is left. -/
theorem frameNewBuildsTheFrame : Obligations.FrameNewBuildsTheFrame := by
  intro length h payload st inMax fits driven
  obtain ⟨exceeds, -⟩ | ⟨f, hlength, hheader, hdata, -, builds⟩ | ⟨-, -, undriven, -⟩ :=
    execFrameNew_cases length h payload st
  · exact absurd exceeds (by simp only [maxLength]; omega)
  · exact ⟨f, hlength, hheader, hdata, builds⟩
  · omega

/-- Settles O25: a length over either bound meets neither of the other two ways to end. -/
theorem frameNewRejectsLengthsOverEitherBound : Obligations.FrameNewRejectsLengthsOverEitherBound := by
  intro length h payload st exceeds
  obtain ⟨-, rejects⟩ | ⟨f, hlength, -⟩ | ⟨inMax, fits, -⟩ := execFrameNew_cases length h payload st
  · exact rejects
  · have inMax := hlength ▸ f.length_le_maxLength
    have fits := hlength ▸ f.length_le_capacity
    exact absurd exceeds (by simp only [maxLength] at inMax; omega)
  · exact absurd exceeds (by simp only [maxLength] at inMax; omega)

/-- Settles O26: the undriven data byte leaves no Frame to build, and the bounds leave nothing to reject. -/
theorem frameNewStopsOnUndrivenData : Obligations.FrameNewStopsOnUndrivenData :=
  fun _ _ _ _ inMax fits undriven => if_pos (dataUndriven_iff.2 ⟨inMax, fits, undriven⟩)

/-! ## The operations and rows that return a plain value -/

theorem exec_viewFirstByte (w : HeaderWord) (s : State) :
    exec (.viewFirstByte w) s = .next (s.after .viewFirstByte (.ok (.firstByte (w.setWidth 8)))) :=
  finish_map_of_ok (viewFirstByte_eq_ok w)

theorem exec_viewType (w : HeaderWord) (s : State) :
    exec (.viewType w) s = .next (s.after .viewType (.ok (.type (pbfGetType w)))) :=
  finish_map_of_ok (viewType_eq_ok w)

theorem exec_viewSubsys (w : HeaderWord) (s : State) :
    exec (.viewSubsys w) s = .next (s.after .viewSubsys (.ok (.subsystem (pbfGetSubsys w)))) :=
  finish_map_of_ok (viewSubsys_eq_ok w)

theorem exec_srspRaw (e : SRSPErrorCode) (s : State) :
    exec (.srspRaw e) s = .next (s.after .srspRaw (.ok (.srspByte e.raw))) :=
  finish_eq_next s .srspRaw (.ok (.srspByte e.raw))

/-- Receiving a header word is evaluating `DECODE_HEADER` on it (log 4). -/
theorem receiveHeader_eq_exec (s : State) (w : HeaderWord) : s.receiveHeader w = exec (.decodeHeader w) s := rfl

theorem receiveHeader_packHeader (t : CommandType) (sub : Subsystem) (id : CommandId) (s : State) :
    s.receiveHeader (packHeader t sub id) = .next (s.after .decodeHeader (.ok (.fields t sub id))) :=
  (receiveHeader_eq_exec s _).trans (decodeHeaderUndoesEncodeHeader t sub id s)

theorem receiveSrsp_raw (e : SRSPErrorCode) (s : State) :
    s.receiveSrsp e.raw = .next (s.after .srspFromRaw (.ok (.srspCode e))) :=
  finish_map_of_ok (srspFromRaw_srspRaw e)

theorem exec_typeRow (t : CommandType) (sub : Subsystem) (id : CommandId) (s : State) :
    exec (typeRow id sub t) s = .next (s.after .decodeHeader (.ok (.fields t sub id))) := by
  cases t <;> exact receiveHeader_packHeader _ sub id s

theorem exec_subsystemRow (t : CommandType) (sub : Subsystem) (id : CommandId) (s : State) :
    exec (subsystemRow id t sub) s = .next (s.after .decodeHeader (.ok (.fields t sub id))) := by
  cases sub <;> exact receiveHeader_packHeader t _ id s

theorem exec_srspRow (e : SRSPErrorCode) (s : State) :
    exec (srspRow e) s = .next (s.after .srspFromRaw (.ok (.srspCode e))) := by
  have received : exec (srspRow e) s = s.receiveSrsp e.raw := by cases e <;> rfl
  rw [received, receiveSrsp_raw]

/-- Settles O14: the view keeps the low 8 bits of the word. -/
theorem viewFirstByteIsTheLowByte : Obligations.ViewFirstByteIsTheLowByte :=
  fun w st => ⟨w.setWidth 8, BitVec.toNat_setWidth .., exec_viewFirstByte w st⟩

/-- Settles O15: the view reads the type field. -/
theorem viewTypeReadsBits7To5 : Obligations.ViewTypeReadsBits7To5 :=
  fun w st => ⟨pbfGetType w, toNat_raw_pbfGetType w, exec_viewType w st⟩

/-- Settles O16: the view reads the subsystem field. -/
theorem viewSubsysReadsBits4To0 : Obligations.ViewSubsysReadsBits4To0 :=
  fun w st => ⟨pbfGetSubsys w, toNat_raw_pbfGetSubsys w, exec_viewSubsys w st⟩

/-- Settles O18: the triple is what the word's three fields read. -/
theorem decodeHeaderGivesTheThreeFields : Obligations.DecodeHeaderGivesTheThreeFields :=
  fun w st =>
    ⟨pbfGetType w, pbfGetSubsys w, pbfGetId w, toNat_raw_pbfGetType w, toNat_raw_pbfGetSubsys w, toNat_extractId w,
      exec_decodeHeader w st⟩

/-- Settles O19: each of the four words is the encoding of its triple. -/
theorem decodeHeaderOnTheSpecsWords : Obligations.DecodeHeaderOnTheSpecsWords := by
  intro st
  and_intros
  · exact decodeHeaderUndoesEncodeHeader .poll .rpcError 0x00 st
  · exact decodeHeaderUndoesEncodeHeader .reserved7 .reserved31 0xFF st
  · exact decodeHeaderUndoesEncodeHeader .syncRequest .zdo 0x20 st
  · exact decodeHeaderUndoesEncodeHeader .poll .zdo 0x20 st

/-- Settles O29: each clause is `SRSP_RAW` on one code, with that code's row of the byte column read off. -/
theorem srspRawGivesTheByte : Obligations.SrspRawGivesTheByte := by
  intro st
  and_intros <;> exact exec_srspRaw _ st

/-- Settles O32: a word of a type row is packed from that row's tag and the fields it leaves open. -/
theorem headerWordsOfEachTypeRowDecode : Obligations.HeaderWordsOfEachTypeRowDecode := by
  intro id s st
  and_intros <;> exact receiveHeader_packHeader _ s id st

/-- Settles O33: a word of a subsystem row is packed from that row's tag and the fields it leaves open. -/
theorem headerWordsOfEachSubsystemRowDecode : Obligations.HeaderWordsOfEachSubsystemRowDecode := by
  intro id t st
  and_intros <;> exact receiveHeader_packHeader t _ id st

/-- Settles O34: the byte of an SRSP row is its code's, and reading it back gives the code. -/
theorem srspRowBytesDecode : Obligations.SrspRowBytesDecode :=
  fun st =>
    ⟨exec_srspRow .ok st, exec_srspRow .invalidSubsystem st, exec_srspRow .invalidCommandId st,
      exec_srspRow .invalidParameter st, exec_srspRow .invalidLength st⟩

/-- Settles O37: the code of each outcome is its row of the status table. -/
theorem statusCodes : Obligations.StatusCodes :=
  fun _ _ _ => ⟨rfl, rfl, rfl, rfl⟩

/-- Settles O46: the two clauses are the two cases of `narrow`, and a number that fits is kept by the cut. -/
theorem narrowNeverTruncates : Obligations.NarrowNeverTruncates := by
  intro N m v
  obtain ⟨fits, narrowed⟩ | ⟨tooWide, raised⟩ := narrow_cases N v
  · refine ⟨fun _ => ⟨_, narrowed, ?_⟩, fun tooWide => absurd fits tooWide.not_gt⟩
    rw [BitVec.toNat_setWidth, Nat.mod_eq_of_lt fits]
  · refine ⟨fun fits => absurd fits tooWide.not_gt, fun _ => ⟨raised, ?_⟩⟩
    rw [raised]
    rfl

end Sys2Proof.Machine

namespace Sys2Proof.Machine

/-! ## What an evaluation can answer, said once

`exec_cases` gives every way an evaluation ends; what a result may carry, which errors occur, where a result appears
and what never stops are read off it. -/

/-- The outcomes that an instruction can end with: its outputs carry it (R18), and it is an error exactly where the
complete list of R165 has one for these inputs. -/
def Allows {capacity : Nat} (i : Instr) (o : Except ErrorKind (Value capacity)) : Prop :=
  Result.legal ⟨i.outputGroup, o⟩ = true ∧ ∀ k : ErrorKind, o = .error k ↔ i.errorKind capacity = some k

theorem allows_ok {capacity : Nat} {i : Instr} {v : Value capacity}
    (carried : Result.legal ⟨i.outputGroup, .ok v⟩ = true) (unlisted : i.errorKind capacity = none) :
    Allows i (.ok v) :=
  ⟨carried, fun k => by simp [unlisted]⟩

theorem allows_error {capacity : Nat} {i : Instr} {k : ErrorKind}
    (carried : Result.legal (capacity := capacity) ⟨i.outputGroup, .error k⟩ = true)
    (listed : i.errorKind capacity = some k) : Allows (capacity := capacity) i (.error k) :=
  ⟨carried, fun k' => by simp [listed]⟩

theorem srspByte_legal {capacity : Nat} (e : SRSPErrorCode) :
    Result.legal (capacity := capacity) ⟨.srspRaw, .ok (.srspByte e.raw)⟩ = true := by
  cases e <;> rfl

theorem ctFromRaw_allows (capacity : Nat) (n : RawByte) :
    Allows (capacity := capacity) (.ctFromRaw n) ((ctFromRaw n).map .type) := by
  by_cases unnamed : 8 ≤ n.toNat
  · rw [ctFromRaw_of_ge unnamed]
    exact allows_error rfl (if_pos unnamed)
  · rw [ctFromRaw_of_le (by omega)]
    exact allows_ok rfl (if_neg unnamed)

theorem ssFromRaw_allows (capacity : Nat) (n : RawByte) :
    Allows (capacity := capacity) (.ssFromRaw n) ((ssFromRaw n).map .subsystem) := by
  by_cases unnamed : 32 ≤ n.toNat
  · rw [ssFromRaw_of_ge unnamed]
    exact allows_error rfl (if_pos unnamed)
  · rw [ssFromRaw_of_le (by omega)]
    exact allows_ok rfl (if_neg unnamed)

theorem srspFromRaw_allows (capacity : Nat) (b : RawByte) :
    Allows (capacity := capacity) (.srspFromRaw b) ((srspFromRaw b).map .srspCode) := by
  by_cases untagged : 5 ≤ b.toNat
  · rw [srspFromRaw_of_ge untagged]
    exact allows_error rfl (if_pos untagged)
  · rw [srspFromRaw_of_le (by omega)]
    exact allows_ok rfl (if_neg untagged)

/-- The stop on undriven data (log 8) is no way to end for a payload of `N` bytes. -/
theorem exec_frameNew_cases (length : Length) (h : CommandHeader) (payload : List Byte) (s : State) :
    (∃ o, exec (.frameNew length h payload) s = .next (s.after .frameNew o) ∧ Allows (.frameNew length h payload) o) ∨
    (Instr.wellFormed s.capacity (.frameNew length h payload) = false ∧
      exec (.frameNew length h payload) s = .fault .payloadNotDriven) := by
  obtain ⟨exceeds, rejects⟩ | ⟨f, rfl, -, -, -, builds⟩ | ⟨-, fits, undriven, stops⟩ :=
    execFrameNew_cases length h payload s
  · exact .inl ⟨_, rejects, allows_error rfl (if_pos exceeds)⟩
  · have inBounds : ¬ (250 < f.length.toNat ∨ s.capacity < f.length.toNat) :=
      not_or.2 ⟨f.length_le_maxLength.not_gt, f.length_le_capacity.not_gt⟩
    exact .inl ⟨_, builds, allows_ok rfl (if_neg inBounds)⟩
  · have short : payload.length ≠ s.capacity := by omega
    exact .inr ⟨beq_false_of_ne short, stops⟩

/-- Every evaluation adds one outcome that the instruction allows, on the instruction's own outputs; or it is no
well-formed one and stops. -/
theorem exec_cases (i : Instr) (s : State) :
    (∃ o, exec i s = .next (s.after i.outputGroup o) ∧ Allows i o) ∨
    (i.wellFormed s.capacity = false ∧ exec i s = .fault .payloadNotDriven) := by
  cases i with
  | frameNew length h payload => exact exec_frameNew_cases length h payload s
  | ctFromRaw n => exact .inl ⟨_, exec_ctFromRaw n s, ctFromRaw_allows s.capacity n⟩
  | ssFromRaw n => exact .inl ⟨_, exec_ssFromRaw n s, ssFromRaw_allows s.capacity n⟩
  | srspFromRaw b => exact .inl ⟨_, exec_srspFromRaw b s, srspFromRaw_allows s.capacity b⟩
  | ctRaw t => exact .inl ⟨_, exec_ctRaw t s, allows_ok rfl rfl⟩
  | ssRaw sub => exact .inl ⟨_, exec_ssRaw sub s, allows_ok rfl rfl⟩
  | pbfGetType h => exact .inl ⟨_, exec_pbfGetType h s, allows_ok rfl rfl⟩
  | pbfGetSubsys h => exact .inl ⟨_, exec_pbfGetSubsys h s, allows_ok rfl rfl⟩
  | pbfGetId h => exact .inl ⟨_, exec_pbfGetId h s, allows_ok rfl rfl⟩
  | encodeHeader t sub id => exact .inl ⟨_, exec_encodeHeader t sub id s, allows_ok rfl rfl⟩
  | viewFirstByte w => exact .inl ⟨_, exec_viewFirstByte w s, allows_ok rfl rfl⟩
  | viewType w => exact .inl ⟨_, exec_viewType w s, allows_ok rfl rfl⟩
  | viewSubsys w => exact .inl ⟨_, exec_viewSubsys w s, allows_ok rfl rfl⟩
  | viewCmdId w => exact .inl ⟨_, exec_viewCmdId w s, allows_ok rfl rfl⟩
  | decodeHeader w => exact .inl ⟨_, exec_decodeHeader w s, allows_ok rfl rfl⟩
  | srspRaw e => exact .inl ⟨_, exec_srspRaw e s, allows_ok (srspByte_legal e) rfl⟩
  | ok => exact .inl ⟨_, exec_srspRow .ok s, allows_ok rfl rfl⟩
  | invalidSubsystem => exact .inl ⟨_, exec_srspRow .invalidSubsystem s, allows_ok rfl rfl⟩
  | invalidCommandId => exact .inl ⟨_, exec_srspRow .invalidCommandId s, allows_ok rfl rfl⟩
  | invalidParameter => exact .inl ⟨_, exec_srspRow .invalidParameter s, allows_ok rfl rfl⟩
  | invalidLength => exact .inl ⟨_, exec_srspRow .invalidLength s, allows_ok rfl rfl⟩
  -- the rows of the two header tables
  | _ => exact .inl ⟨_, receiveHeader_packHeader _ _ _ s, allows_ok rfl rfl⟩

/-- An evaluation that answers a next state has added one outcome that the instruction allows, and no more. -/
theorem exec_eq_next {i : Instr} {s t : State} (answers : exec i s = .next t) :
    ∃ o, t = s.after i.outputGroup o ∧ Allows i o := by
  obtain ⟨o, adds, allowed⟩ | ⟨-, stops⟩ := exec_cases i s
  · exact ⟨o, Host.Outcome.next.inj (answers.symm.trans adds), allowed⟩
  · cases stops.symm.trans answers

/-- A well-formed instruction always answers a next state. -/
theorem exec_of_wellFormed {i : Instr} {s : State} (presented : i.wellFormed s.capacity = true) :
    ∃ o, exec i s = .next (s.after i.outputGroup o) := by
  obtain ⟨o, adds, -⟩ | ⟨malformed, -⟩ := exec_cases i s
  · exact ⟨o, adds⟩
  · cases malformed.symm.trans presented

theorem errorKind_ne_numericConversion (i : Instr) (capacity : Nat) :
    i.errorKind capacity ≠ some .numericConversion := by
  unfold Instr.errorKind
  split <;> simp

/-- Settles O39: this is `exec_eq_next` without the outcome's content. -/
theorem resultAppearsOnItsOwnOutputsOnly : Obligations.ResultAppearsOnItsOwnOutputsOnly := by
  intro i s t answers
  obtain ⟨o, rfl, -⟩ := exec_eq_next answers
  exact ⟨o, rfl⟩

/-- Settles O38: the outcome that was added is one that the instruction allows. -/
theorem errorsAreExactlyThoseOfTheList : Obligations.ErrorsAreExactlyThoseOfTheList := by
  intro i s t answers
  obtain ⟨o, rfl, -, errors⟩ := exec_eq_next answers
  exact ⟨⟨i.outputGroup, o⟩, rfl, errors⟩

/-- Settles O23: NumericConversionError stands nowhere in the complete list. -/
theorem numericConversionErrorNeverReturned : Obligations.NumericConversionErrorNeverReturned := by
  intro i s t answers
  obtain ⟨r, rfl, errors⟩ := errorsAreExactlyThoseOfTheList i s t answers
  exact ⟨r, rfl, fun raised => errorKind_ne_numericConversion i s.capacity ((errors _).1 raised)⟩

end Sys2Proof.Machine

namespace Sys2Proof.Machine

/-! ## Steps and runs

A step is one evaluation, so what holds of every evaluation holds along a run. -/

theorem step_of_pending_nil {s : State} (idle : s.pending = []) : step s = .next s := by
  simp [step, State.nextLine, idle]

theorem step_of_decode_ok {s : State} {l : Line} {rest : List Line} {i : Instr} (lined : s.pending = l :: rest)
    (decodes : decode l = .ok i) : step s = exec i { s with pending := rest } := by
  simp [step, State.nextLine, State.takeLine, lined, decodes]

theorem step_of_decode_error {s : State} {l : Line} {rest : List Line} {d : LineDefect} (lined : s.pending = l :: rest)
    (rejected : decode l = .error d) : step s = .refused (.notPresentable d) := by
  simp [step, State.nextLine, lined, rejected]

/-- Settles O47: the line that is taken decodes, so its instruction is evaluated. -/
theorem stepRunsTheDecodedInstruction : Obligations.StepRunsTheDecodedInstruction :=
  fun _ _ _ _ lined decodes => step_of_decode_ok lined decodes

/-- Settles O48: the line that is taken does not decode, so its defect is named. -/
theorem stepRefusesLinesThatDoNotDecode : Obligations.StepRefusesLinesThatDoNotDecode :=
  fun _ _ _ _ lined rejected => step_of_decode_error lined rejected

/-- Settles O51: there is no line to take. -/
theorem stepWithNothingLinedUpChangesNothing : Obligations.StepWithNothingLinedUpChangesNothing :=
  fun _ idle => step_of_pending_nil idle

/-- Settles O52: each field of the reset state as it is written there. -/
theorem resetHoldsNothing : Obligations.ResetHoldsNothing :=
  ⟨rfl, rfl, rfl⟩

theorem legal_iff (s : State) : s.legal = true ↔ ∀ r ∈ s.results, r.legal = true := List.all_eq_true

/-- Settles O53: no result is listed. -/
theorem resetIsLegal : Obligations.ResetIsLegal :=
  (legal_iff State.reset).2 fun _ listed => absurd listed List.not_mem_nil

theorem legal_after {s : State} {op : Operation} {o : Except ErrorKind (Value s.capacity)} (legal : s.legal = true)
    (carried : Result.legal ⟨op, o⟩ = true) : (s.after op o).legal = true :=
  (legal_iff _).2 (List.forall_mem_append.2 ⟨(legal_iff s).1 legal, List.forall_mem_singleton.2 carried⟩)

/-- The results of a legal state stay, and the one that a step adds is one that its instruction allows. -/
theorem step_keeps_legal {s t : State} (legal : s.legal = true) (steps : step s = .next t) :
    t.legal = true ∧ t.capacity = s.capacity := by
  obtain ⟨-, rfl⟩ | ⟨l, rest, i, -, -, answers⟩ := step_cases steps
  · exact ⟨legal, rfl⟩
  · obtain ⟨o, rfl, carried, -⟩ := exec_eq_next answers
    exact ⟨legal_after (s := ⟨s.capacity, rest, s.results⟩) legal carried, rfl⟩

/-- Settles O54: a step adds one allowed result at most, and the bounds of a Frame are part of its type. -/
theorem stepKeepsTheStateLegal : Obligations.StepKeepsTheStateLegal := by
  intro s t legal steps
  obtain ⟨legalAfter, sameCapacity⟩ := step_keeps_legal legal steps
  exact ⟨legalAfter, sameCapacity, fun _ _ f _ =>
    ⟨f.length_le_maxLength, sameCapacity ▸ f.length_le_capacity, f.data_length⟩⟩

theorem linePresentable_iff (capacity : Nat) (l : Line) :
    linePresentable capacity l = true ↔ ∃ i, decode l = .ok i ∧ i.wellFormed capacity = true := by
  unfold linePresentable
  cases decode l <;> simp

theorem presentable_iff (s : State) :
    s.presentable = true ↔ ∀ l ∈ s.pending, linePresentable s.capacity l = true := List.all_eq_true

/-- What a line that can be presented adds depends on the line and the capacity alone. -/
theorem step_of_linePresentable {capacity : Nat} {l : Line} (presented : linePresentable capacity l = true) :
    ∃ r : Result capacity, ∀ pending results,
      step ⟨capacity, l :: pending, results⟩ = .next ⟨capacity, pending, results ++ [r]⟩ := by
  obtain ⟨i, decodes, wellFormed⟩ := (linePresentable_iff capacity l).1 presented
  obtain ⟨o, -, adds⟩ | ⟨stops, -⟩ := exec_uniform i ⟨capacity, [], []⟩
  · exact ⟨⟨i.outputGroup, o⟩, fun pending results => (step_of_decode_ok rfl decodes).trans (adds pending results)⟩
  · obtain ⟨o, adds⟩ := exec_of_wellFormed (s := ⟨capacity, [], []⟩) wellFormed
    cases stops.symm.trans adds

/-- Settles O55: an idle step changes nothing, and a line that can be presented is taken and answers one result. -/
theorem presentableLinesNeverStopTheMachine : Obligations.PresentableLinesNeverStopTheMachine := by
  rintro ⟨capacity, pending, results⟩ presented
  cases pending with
  | nil => exact ⟨_, step_of_pending_nil rfl, presented, rfl⟩
  | cons l rest =>
    obtain ⟨presentedNow, presentedLater⟩ := List.forall_mem_cons.1 ((presentable_iff _).1 presented)
    obtain ⟨r, steps⟩ := step_of_linePresentable presentedNow
    exact ⟨_, steps rest results, (presentable_iff _).2 presentedLater, rfl⟩

/-- The function that a run maps over its lines: any result will do for a line that cannot be presented. -/
theorem exists_result_of_line :
    ∃ f : (capacity : Nat) → Line → Result capacity, ∀ capacity l, linePresentable capacity l = true →
      ∀ pending results,
        step ⟨capacity, l :: pending, results⟩ = .next ⟨capacity, pending, results ++ [f capacity l]⟩ := by
  have answers : ∀ capacity l, ∃ r : Result capacity, linePresentable capacity l = true → ∀ pending results,
      step ⟨capacity, l :: pending, results⟩ = .next ⟨capacity, pending, results ++ [r]⟩ := by
    intro capacity l
    by_cases presented : linePresentable capacity l = true
    · obtain ⟨r, steps⟩ := step_of_linePresentable presented
      exact ⟨r, fun _ => steps⟩
    · exact ⟨⟨.ctRaw, .ok (.rawType 0)⟩, fun presented' => absurd presented' presented⟩
  choose f steps using answers
  exact ⟨f, steps⟩

theorem run_succ {M : Host.Core} {s t : M.State} (n : Nat) (steps : M.step s = .next t) :
    M.run (n + 1) s = M.run n t := by
  rw [Host.Core.run, steps]

/-- Settles O56: by induction on the pending lines, each step adds the result of its line to those before it. -/
theorem runIsTheListOfIndependentResults : Obligations.RunIsTheListOfIndependentResults := by
  obtain ⟨f, steps⟩ := exists_result_of_line
  refine ⟨f, ?_⟩
  rintro ⟨capacity, pending, results⟩ presented
  induction pending generalizing results with
  | nil => simp [Host.Core.run]
  | cons l rest ih =>
    obtain ⟨presentedNow, presentedLater⟩ := List.forall_mem_cons.1 ((presentable_iff _).1 presented)
    have runsOn := ih (results ++ [f capacity l]) ((presentable_iff _).2 presentedLater)
    calc Host.Core.run core (rest.length + 1) (State.mk capacity (l :: rest) results)
        = Host.Core.run core rest.length (State.mk capacity rest (results ++ [f capacity l])) :=
          run_succ (M := core) _ (steps capacity l presentedNow rest results)
      _ = .next ⟨capacity, [], results ++ (l :: rest).map (f capacity)⟩ := by
          rw [runsOn, List.map_cons, List.append_assoc, List.singleton_append]

theorem decode_of_decodeTableWord {nbits w : Nat} {i : Instr} (reads : decodeTableWord nbits w = some i) :
    decode (tableLine Config.capacity nbits w) = .ok i := by
  unfold decodeTableWord at reads
  cases decodes : decode (tableLine Config.capacity nbits w) with
  | error d => simp [decodes, Except.toOption] at reads
  | ok j => simpa [decodes, Except.toOption] using reads

/-- Settles O60: the word is placed as the very line that the table reading decodes, and taking it restores the state. -/
theorem tableWordRunsAsTheNextStep : Obligations.TableWordRunsAsTheNextStep := by
  intro s nbits w i sameCapacity reads
  have decodes := decode_of_decodeTableWord reads
  rw [← sameCapacity] at decodes
  exact step_of_decode_ok rfl decodes

end Sys2Proof.Machine

namespace Sys2Proof.Machine

/-! ## The three fields of the header word (R100, R106, R116, R118)

Ranges that do not meet: placing in one is seen in that one only, and a mask that spares one does not see it. -/

theorem extract_place_self {hi lo : Nat} {v : BitVec (hi - lo + 1)} (inWord : hi ≤ 15) (ordered : lo ≤ hi) :
    extract (place hi lo v) hi lo = v := by
  refine BitVec.eq_of_getLsbD_eq fun k below => ?_
  have belowTop : lo + k < 16 := by omega
  rw [extract_getLsbD, place_getLsbD, Nat.add_sub_cancel_left]
  simp only [below, belowTop, Nat.not_lt.2 (Nat.le_add_right lo k), decide_true, decide_false, Bool.not_false,
    Bool.true_and]

theorem extract_place_of_disjoint {hi lo hi' lo' : Nat} {v : BitVec (hi - lo + 1)} (ordered : lo ≤ hi)
    (ordered' : lo' ≤ hi') (apart : hi' < lo ∨ hi < lo') : extract (place hi lo v) hi' lo' = 0 := by
  refine BitVec.eq_of_getLsbD_eq fun k below => ?_
  rw [extract_getLsbD, place_getLsbD_of_outside v ordered (by omega), Bool.and_false]
  exact BitVec.getLsbD_zero.symm

/-- Settles O45: a range reads back what was placed in it and 0 from a range apart; the three ranges fill the word. -/
theorem extractAndPlaceLaws : Obligations.ExtractAndPlaceLaws := by
  intro a b c w
  and_intros
  · exact extract_place_self (by decide) (by decide)
  · exact extract_place_self (by decide) (by decide)
  · exact extract_place_self (by decide) (by decide)
  · exact extract_place_of_disjoint (by decide) (by decide) (by decide)
  · exact extract_place_of_disjoint (by decide) (by decide) (by decide)
  · exact extract_place_of_disjoint (by decide) (by decide) (by decide)
  · exact extract_place_of_disjoint (by decide) (by decide) (by decide)
  · exact extract_place_of_disjoint (by decide) (by decide) (by decide)
  · exact extract_place_of_disjoint (by decide) (by decide) (by decide)
  · have fields := encodeHeader_fields w
    rwa [encodeHeader, packHeader, pbfGetType, pbfGetSubsys, commandType_raw_ofRaw, subsystem_raw_ofRaw] at fields

/-- Settles O11: decoding is the inverse. -/
theorem encodeHeaderIsABijection : Obligations.EncodeHeaderIsABijection := by
  refine ⟨fun x y sameWord => ?_, fun w => ⟨(pbfGetType w, pbfGetSubsys w, pbfGetId w), encodeHeader_fields w⟩⟩
  have decodesX := (decodeHeader_eq_ok_iff _ x).2 sameWord
  have decodesY := (decodeHeader_eq_ok_iff _ y).2 rfl
  exact Except.ok.inj (decodesX.symm.trans decodesY)

theorem place_and_eq_zero {hi lo : Nat} {v : BitVec (hi - lo + 1)} {mask : HeaderWord} (ordered : lo ≤ hi)
    (spared : ∀ k, lo ≤ k → k ≤ hi → mask.getLsbD k = false) : place hi lo v &&& mask = 0#16 := by
  refine BitVec.eq_of_getLsbD_eq fun k _ => ?_
  rw [BitVec.getLsbD_and, BitVec.getLsbD_zero]
  by_cases inside : lo ≤ k ∧ k ≤ hi
  · rw [spared k inside.1 inside.2, Bool.and_false]
  · rw [place_getLsbD_of_outside v ordered (by omega), Bool.false_and]

theorem encodeHeader_and_of_id_spared (t : CommandType) (s : Subsystem) (id : CommandId) :
    encodeHeader t s id &&& 0x00FF#16 = (place 7 5 t.raw ||| place 4 0 s.raw) &&& 0x00FF#16 := by
  have unseen : place 15 8 id &&& 0x00FF#16 = 0#16 := place_and_eq_zero (by decide) (by decide)
  rw [encodeHeader, packHeader, BitVec.or_assoc, BitVec.and_or_distrib_right, unseen, BitVec.zero_or]

theorem encodeHeader_and_of_type_spared (t : CommandType) (s : Subsystem) (id : CommandId) :
    encodeHeader t s id &&& 0xFF1F#16 = (place 15 8 id &&& 0xFF1F#16) ||| (place 4 0 s.raw &&& 0xFF1F#16) := by
  have unseen : place 7 5 t.raw &&& 0xFF1F#16 = 0#16 := place_and_eq_zero (by decide) (by decide)
  rw [encodeHeader, packHeader, BitVec.and_or_distrib_right, BitVec.and_or_distrib_right, unseen, BitVec.or_zero]

theorem encodeHeader_and_of_subsys_spared (t : CommandType) (s : Subsystem) (id : CommandId) :
    encodeHeader t s id &&& 0xFFE0#16 = (place 15 8 id ||| place 7 5 t.raw) &&& 0xFFE0#16 := by
  have unseen : place 4 0 s.raw &&& 0xFFE0#16 = 0#16 := place_and_eq_zero (by decide) (by decide)
  rw [encodeHeader, packHeader, BitVec.and_or_distrib_right, unseen, BitVec.or_zero]

/-- Settles O12: under a mask that spares one field the word is a function of the two others. -/
theorem encodeHeaderFieldsAreIndependent : Obligations.EncodeHeaderFieldsAreIndependent := by
  intro t t' s s' id id'
  and_intros
  · rw [encodeHeader_and_of_id_spared, encodeHeader_and_of_id_spared]
  · rw [encodeHeader_and_of_type_spared, encodeHeader_and_of_type_spared]
  · rw [encodeHeader_and_of_subsys_spared, encodeHeader_and_of_subsys_spared]

/-- Settles O13: `h` is itself the encoding of its fields, and of these only the subsystem is another one. -/
theorem replacingTheSubsystemByReencoding : Obligations.ReplacingTheSubsystemByReencoding := by
  refine fun h s2 => ⟨pbfGetSubsys_encodeHeader .., ?_⟩
  calc encodeHeader (pbfGetType h) s2 (pbfGetId h) &&& 0xFFE0#16
      = encodeHeader (pbfGetType h) (pbfGetSubsys h) (pbfGetId h) &&& 0xFFE0#16 :=
        (encodeHeaderFieldsAreIndependent _ (pbfGetType h) _ _ _ (pbfGetId h)).2.2
    _ = h &&& 0xFFE0#16 := by rw [encodeHeader_fields]

/-- The two wire bytes of a word, by its fields (R51, R120). -/
theorem bytesFromWord_eq_fields (w : HeaderWord) :
    bytesFromWord w = ((pbfGetType w).raw ++ (pbfGetSubsys w).raw, pbfGetId w) := by
  rw [← bytesFromWord_packHeader (pbfGetType w) (pbfGetSubsys w) (pbfGetId w)]
  exact congrArg bytesFromWord (encodeHeader_fields w).symm

/-- Settles O21: each view is the field read of its name, and the first wire byte holds type and subsystem. -/
theorem threeWaysToReadAFieldAgree : Obligations.ThreeWaysToReadAFieldAgree :=
  fun w =>
    ⟨viewType_eq_ok w, viewSubsys_eq_ok w, viewCmdId_eq_ok w, decodeHeader_eq_ok w,
      (viewFirstByte_eq_ok w).trans (congrArg (fun bytes => Except.ok bytes.1) (bytesFromWord_eq_fields w))⟩

/-! ## Frames (R32, R36, R146) -/

theorem frameNew_congr {capacity : Nat} {length : Length} {h : CommandHeader} {p q : Vector Byte capacity}
    (agree : p.toList.take length.toNat = q.toList.take length.toNat) :
    frameNew capacity length h p = frameNew capacity length h q := by
  simp only [frameNew, agree]

/-- Settles O27: the Frame is built from the first `length` bytes, and these are the same list for both payloads. -/
theorem framePaddingIsUnobservable : Obligations.FramePaddingIsUnobservable := by
  intro length h p q st sizeP sizeQ agree
  obtain ⟨p, rfl⟩ : ∃ v : Vector Byte st.capacity, v.toList = p := ⟨⟨p.toArray, sizeP⟩, rfl⟩
  obtain ⟨q, rfl⟩ : ∃ v : Vector Byte st.capacity, v.toList = q := ⟨⟨q.toArray, sizeQ⟩, rfl⟩
  have sameData : p.toList.take length.toNat = q.toList.take length.toNat := by
    refine List.ext_getElem? fun k => ?_
    rw [List.getElem?_take, List.getElem?_take]
    split
    · exact agree k ‹_›
    · rfl
  calc exec (.frameNew length h p.toList) st
      = .next (st.after .frameNew ((frameNew st.capacity length h p).map .frame)) := execFrameNew_vector length h st p
    _ = .next (st.after .frameNew ((frameNew st.capacity length h q).map .frame)) := by rw [frameNew_congr sameData]
    _ = exec (.frameNew length h q.toList) st := (execFrameNew_vector length h st q).symm

/-- Settles O28: the Frame's own data bytes, filled up to `N`, are such a payload. -/
theorem everyFrameIsAResultOfFrameNew : Obligations.EveryFrameIsAResultOfFrameNew := by
  intro st f
  have fits := f.length_le_capacity
  have size := f.data_length
  refine ⟨f.length_le_maxLength, fits, size, f.data ++ List.replicate (st.capacity - f.length.toNat) 0, ?_, ?_⟩
  · rw [List.length_append, List.length_replicate]
    omega
  · obtain ⟨g, hlength, hheader, hdata, builds⟩ :=
      frameNewBuildsTheFrame f.length f.header (f.data ++ List.replicate (st.capacity - f.length.toNat) 0) st
        f.length_le_maxLength fits (by rw [List.length_append]; omega)
    have ownData : (f.data ++ List.replicate (st.capacity - f.length.toNat) 0).take f.length.toNat = f.data :=
      List.take_left' size
    rw [builds, frame_ext hlength hheader (hdata.trans ownData)]

/-- Settles O42: the four parts of the wire layout one after another, the header's two bytes by its fields. -/
theorem frameWireLayout : Obligations.FrameWireLayout := by
  intro capacity f
  have size := f.data_length
  have inMax : f.length.toNat ≤ 250 := f.length_le_maxLength
  have layout : f.wireBytes =
      f.length :: ((pbfGetType f.header).raw ++ (pbfGetSubsys f.header).raw) :: pbfGetId f.header :: f.data := by
    rw [Frame.wireBytes, wireWord, bytesFromWord_eq_fields]
    rfl
  have count : f.wireBytes.length = 3 + f.length.toNat := by
    rw [layout]
    simp only [List.length_cons]
    omega
  refine ⟨count, by omega, by omega, by rw [layout]; rfl, by rw [layout]; rfl, by rw [layout]; rfl,
    fun k below => ⟨?_, ?_⟩⟩
  · rw [Nat.add_comm 3 k, layout]
    rfl
  · rw [List.getElem?_eq_getElem (by omega)]
    rfl

end Sys2Proof.Machine

namespace Sys2Proof

open Machine

/-! ## The ports (R16, U4)

A port takes exactly the bytes that are raw values of its enumeration. -/

theorem typePort_of_le {b : Byte} (fits : b.toNat ≤ 7) : typePort b = .ok (CommandType.ofRaw (b.setWidth 3)) :=
  if_pos (Nat.lt_succ_of_le fits)

theorem typePort_of_ge {b : Byte} (outside : 8 ≤ b.toNat) : typePort b = .error .operandOutsidePort :=
  if_neg outside.not_gt

theorem subsystemPort_of_le {b : Byte} (fits : b.toNat ≤ 31) :
    subsystemPort b = .ok (Subsystem.ofRaw (b.setWidth 5)) :=
  if_pos (Nat.lt_succ_of_le fits)

theorem subsystemPort_of_ge {b : Byte} (outside : 32 ≤ b.toNat) : subsystemPort b = .error .operandOutsidePort :=
  if_neg outside.not_gt

theorem srspPort_of_le {b : Byte} (fits : b.toNat ≤ 4) :
    srspPort b = .ok (SRSPErrorCode.ofRaw ⟨b.toNat, Nat.lt_succ_of_le fits⟩) :=
  dif_pos (Nat.lt_succ_of_le fits)

theorem srspPort_of_ge {b : Byte} (outside : 5 ≤ b.toNat) : srspPort b = .error .operandOutsidePort :=
  dif_neg outside.not_gt

@[simp] theorem typePort_raw (t : CommandType) : typePort (t.raw.setWidth 8) = .ok t := by
  cases t <;> rfl

@[simp] theorem subsystemPort_raw (s : Subsystem) : subsystemPort (s.raw.setWidth 8) = .ok s := by
  cases s <;> rfl

@[simp] theorem srspPort_raw (e : SRSPErrorCode) : srspPort e.raw = .ok e := by
  cases e <;> rfl

theorem eq_raw_of_typePort {b : Byte} {t : CommandType} (taken : typePort b = .ok t) : b = t.raw.setWidth 8 := by
  by_cases fits : b.toNat ≤ 7
  · obtain rfl := Except.ok.inj ((typePort_of_le fits).symm.trans taken)
    apply BitVec.eq_of_toNat_eq
    rw [BitVec.toNat_setWidth, toNat_raw_ofRaw_setWidth_three fits]
    omega
  · cases (typePort_of_ge (by omega)).symm.trans taken

theorem eq_raw_of_subsystemPort {b : Byte} {s : Subsystem} (taken : subsystemPort b = .ok s) :
    b = s.raw.setWidth 8 := by
  by_cases fits : b.toNat ≤ 31
  · obtain rfl := Except.ok.inj ((subsystemPort_of_le fits).symm.trans taken)
    apply BitVec.eq_of_toNat_eq
    rw [BitVec.toNat_setWidth, toNat_raw_ofRaw_setWidth_five fits]
    omega
  · cases (subsystemPort_of_ge (by omega)).symm.trans taken

theorem eq_raw_of_srspPort {b : Byte} {e : SRSPErrorCode} (taken : srspPort b = .ok e) : b = e.raw := by
  by_cases fits : b.toNat ≤ 4
  · obtain rfl := Except.ok.inj ((srspPort_of_le fits).symm.trans taken)
    exact BitVec.eq_of_toNat_eq (toNat_srspRaw_ofRaw ⟨b.toNat, by omega⟩).symm
  · cases (srspPort_of_ge (by omega)).symm.trans taken

/-! ## The shapes of operands

What each shape takes, from either side: the bytes that decode are the ones the encoder writes. -/

theorem map_eq_ok_iff {ε α β : Type} {x : Except ε α} {f : α → β} {b : β} :
    x.map f = .ok b ↔ ∃ a, x = .ok a ∧ f a = b := by
  cases x <;> simp [Except.map]

theorem decodeByte_eq_ok_iff {f : Byte → Except LineDefect Instr} {bytes : List Byte} {i : Instr} :
    decodeByte f bytes = .ok i ↔ ∃ b, bytes = [b] ∧ f b = .ok i := by
  match bytes with
  | [] => simp [decodeByte]
  | [b] => simp [decodeByte]
  | _ :: _ :: _ => simp [decodeByte]

theorem decodeByte_of_length_ne {f : Byte → Except LineDefect Instr} {bytes : List Byte}
    (otherLength : bytes.length ≠ 1) : decodeByte f bytes = .error .operandCount := by
  match bytes with
  | [] => rfl
  | [_] => exact absurd rfl otherLength
  | _ :: _ :: _ => rfl

@[simp] theorem decodeWord_wireWord (f : HeaderWord → Except LineDefect Instr) (w : HeaderWord) :
    decodeWord f (wireWord w) = f w := by
  rw [wireWord, decodeWord, wordFromBytes_bytesFromWord]

theorem wireWord_wordFromBytes (b0 b1 : Byte) : wireWord (wordFromBytes b0 b1) = [b0, b1] := by
  rw [wireWord, bytesFromWord_wordFromBytes]

theorem exists_wireWord_of_length {bytes : List Byte} (two : bytes.length = 2) : ∃ w, bytes = wireWord w := by
  obtain ⟨b0, b1, rfl⟩ := List.length_eq_two.1 two
  exact ⟨_, (wireWord_wordFromBytes b0 b1).symm⟩

theorem decodeWord_of_length_ne {f : HeaderWord → Except LineDefect Instr} {bytes : List Byte}
    (otherLength : bytes.length ≠ 2) : decodeWord f bytes = .error .operandCount := by
  match bytes with
  | [] => rfl
  | [_] => rfl
  | [_, _] => exact absurd rfl otherLength
  | _ :: _ :: _ :: _ => rfl

theorem decodeWord_eq_ok_iff {f : HeaderWord → Except LineDefect Instr} {bytes : List Byte} {i : Instr} :
    decodeWord f bytes = .ok i ↔ ∃ w, bytes = wireWord w ∧ f w = .ok i := by
  constructor
  · intro decodes
    by_cases two : bytes.length = 2
    · obtain ⟨w, rfl⟩ := exists_wireWord_of_length two
      exact ⟨w, rfl, (decodeWord_wireWord f w).symm.trans decodes⟩
    · cases (decodeWord_of_length_ne two).symm.trans decodes
  · rintro ⟨w, rfl, reads⟩
    exact (decodeWord_wireWord f w).trans reads

theorem decodeFields_of_length_ne {operands : List Byte} (otherLength : operands.length ≠ 3) :
    decodeFields operands = .error .operandCount := by
  match operands with
  | [] => rfl
  | [_] => rfl
  | [_, _] => rfl
  | [_, _, _] => exact absurd rfl otherLength
  | _ :: _ :: _ :: _ :: _ => rfl

theorem decodeFields_eq_ok_iff {operands : List Byte} {i : Instr} :
    decodeFields operands = .ok i ↔
      ∃ t s id, operands = [t.raw.setWidth 8, s.raw.setWidth 8, id] ∧ i = .encodeHeader t s id := by
  constructor
  · intro decodes
    unfold decodeFields at decodes
    split at decodes
    case h_1 t s id =>
      split at decodes
      case h_1 t' s' takenType takenSubsys =>
        obtain rfl := eq_raw_of_typePort takenType
        obtain rfl := eq_raw_of_subsystemPort takenSubsys
        exact ⟨t', s', id, rfl, (Except.ok.inj decodes).symm⟩
      all_goals cases decodes
    case h_2 => cases decodes
  · rintro ⟨t, s, id, rfl, rfl⟩
    simp [decodeFields]

theorem decodeFields_of_ports {t s id : Byte} {t' : CommandType} {s' : Subsystem} (takenType : typePort t = .ok t')
    (takenSubsys : subsystemPort s = .ok s') : decodeFields [t, s, id] = .ok (.encodeHeader t' s' id) := by
  simp only [decodeFields, takenType, takenSubsys]

theorem decodeFields_of_ge {t s id : Byte} (outside : 8 ≤ t.toNat ∨ 32 ≤ s.toNat) :
    decodeFields [t, s, id] = .error .operandOutsidePort := by
  by_cases fitsType : t.toNat ≤ 7
  · have outsideSubsys : 32 ≤ s.toNat := by omega
    simp only [decodeFields, typePort_of_le fitsType, subsystemPort_of_ge outsideSubsys]
  · have outsideType : 8 ≤ t.toNat := by omega
    simp only [decodeFields, typePort_of_ge outsideType]

theorem decodeFrame_of_length_lt {operands : List Byte} (tooShort : operands.length < 3) :
    decodeFrame operands = .error .operandCount := by
  match operands with
  | [] => rfl
  | [_] => rfl
  | [_, _] => rfl
  | _ :: _ :: _ :: _ =>
    simp only [List.length_cons] at tooShort
    omega

@[simp] theorem decodeFrame_cons_wireWord (length : Length) (h : CommandHeader) (payload : List Byte) :
    decodeFrame (length :: (wireWord h ++ payload)) = .ok (.frameNew length h payload) := by
  show Except.ok (Instr.frameNew length (wordFromBytes (bytesFromWord h).1 (bytesFromWord h).2) payload) = _
  rw [wordFromBytes_bytesFromWord]

theorem exists_frame_operands_of_length {operands : List Byte} (enough : 3 ≤ operands.length) :
    ∃ length h payload, operands = length :: (wireWord h ++ payload) := by
  match operands with
  | length :: b0 :: b1 :: payload =>
    exact ⟨length, wordFromBytes b0 b1, payload, by rw [wireWord_wordFromBytes]; rfl⟩

theorem decodeFrame_eq_ok_iff {operands : List Byte} {i : Instr} :
    decodeFrame operands = .ok i ↔
      ∃ length h payload, operands = length :: (wireWord h ++ payload) ∧ i = .frameNew length h payload := by
  constructor
  · intro decodes
    by_cases enough : 3 ≤ operands.length
    · obtain ⟨length, h, payload, rfl⟩ := exists_frame_operands_of_length enough
      rw [decodeFrame_cons_wireWord] at decodes
      exact ⟨length, h, payload, rfl, (Except.ok.inj decodes).symm⟩
    · cases (decodeFrame_of_length_lt (by omega)).symm.trans decodes
  · rintro ⟨length, h, payload, rfl, rfl⟩
    exact decodeFrame_cons_wireWord length h payload

/-! ## Lines -/

theorem decode_headerType (bytes : List Byte) :
    decode ⟨.headerType, bytes⟩ = decodeWord (fun w => .ok (decodeTypeRow w)) bytes := rfl

theorem decode_headerSubsystem (bytes : List Byte) :
    decode ⟨.headerSubsystem, bytes⟩ = decodeWord (fun w => .ok (decodeSubsystemRow w)) bytes := rfl

theorem decode_srspErrorCode (bytes : List Byte) :
    decode ⟨.srspErrorCode, bytes⟩ = decodeByte (fun b => .ok (decodeSrspRow b)) bytes := rfl

theorem number_ofNumber (n : BitVec 4) : (Operation.ofNumber n).number = n := by
  revert n
  decide

theorem decodeOperation_of_lt {n : Byte} (numbered : n.toNat ≤ 15) (operands : List Byte) :
    decodeOperation (n :: operands) = decodeOperands operands (Operation.ofNumber (n.setWidth 4)) :=
  if_pos (Nat.lt_succ_of_le numbered)

theorem decodeOperation_of_ge {n : Byte} (outside : 16 ≤ n.toNat) (operands : List Byte) :
    decodeOperation (n :: operands) = .error .operationNumber :=
  if_neg outside.not_gt

theorem toNat_number_ofNumber_setWidth {n : Byte} (numbered : n.toNat ≤ 15) :
    (Operation.ofNumber (n.setWidth 4)).number.toNat = n.toNat := by
  rw [number_ofNumber, BitVec.toNat_setWidth]
  omega

@[simp] theorem decode_operationLine (op : Operation) (operands : List Byte) :
    decode (operationLine op operands) = decodeOperands operands op := by
  cases op <;> rfl

@[simp] theorem decode_typeLine (t : CommandType) (id : CommandId) (s : Subsystem) :
    decode (typeLine t id s) = .ok (typeRow id s t) := by
  simp [decode, typeLine, decodeTypeRow]

@[simp] theorem decode_subsystemLine (s : Subsystem) (id : CommandId) (t : CommandType) :
    decode (subsystemLine s id t) = .ok (subsystemRow id t s) := by
  simp [decode, subsystemLine, decodeSubsystemRow]

@[simp] theorem decode_srspLine (e : SRSPErrorCode) : decode (srspLine e) = .ok (srspRow e) := by
  simp [decode, srspLine, decodeByte, decodeSrspRow]

theorem encode_typeRow (id : CommandId) (s : Subsystem) (t : CommandType) :
    encode (typeRow id s t) = typeLine t id s := by
  cases t <;> rfl

theorem encode_subsystemRow (id : CommandId) (t : CommandType) (s : Subsystem) :
    encode (subsystemRow id t s) = subsystemLine s id t := by
  cases s <;> rfl

theorem encode_srspRow (e : SRSPErrorCode) : encode (srspRow e) = srspLine e := by
  cases e <;> rfl

/-- Settles O57: an operation's operands have the shape that its decoder takes, and the line of a value row is packed
from that row's tag. -/
theorem decodeUndoesEncode : Obligations.DecodeUndoesEncode := by
  intro i
  cases i with
  -- one operand byte
  | ctRaw | ctFromRaw | ssRaw | ssFromRaw | srspRaw | srspFromRaw =>
    simp [encode, decodeOperands, decodeByte, Except.map]
  -- one header word
  | pbfGetType | pbfGetSubsys | pbfGetId | viewFirstByte | viewType | viewSubsys | viewCmdId | decodeHeader =>
    simp [encode, decodeOperands]
  | encodeHeader t s id =>
    exact (decode_operationLine ..).trans (decodeFields_eq_ok_iff.2 ⟨t, s, id, rfl, rfl⟩)
  | frameNew length h payload =>
    exact (decode_operationLine ..).trans (decodeFrame_cons_wireWord length h payload)
  | poll | syncRequest | asyncRequest | syncResponse | reserved4 | reserved5 | reserved6 | reserved7 =>
    exact decode_typeLine ..
  | ok => exact decode_srspLine .ok
  | invalidSubsystem => exact decode_srspLine .invalidSubsystem
  | invalidCommandId => exact decode_srspLine .invalidCommandId
  | invalidParameter => exact decode_srspLine .invalidParameter
  | invalidLength => exact decode_srspLine .invalidLength
  -- the rows of the subsystem table
  | _ => exact decode_subsystemLine ..

end Sys2Proof

namespace Sys2Proof

open Machine

/-! ## What a line that decodes looks like -/

/-- The operands that decode are those that the encoder writes for the instruction they decode to. -/
theorem encode_of_decodeOperands {op : Operation} {operands : List Byte} {i : Instr}
    (decodes : decodeOperands operands op = .ok i) : encode i = operationLine op operands := by
  cases op with
  | ctRaw =>
    obtain ⟨b, rfl, taken⟩ := decodeByte_eq_ok_iff.1 decodes
    obtain ⟨t, port, rfl⟩ := map_eq_ok_iff.1 taken
    rw [eq_raw_of_typePort port, encode]
  | ssRaw =>
    obtain ⟨b, rfl, taken⟩ := decodeByte_eq_ok_iff.1 decodes
    obtain ⟨s, port, rfl⟩ := map_eq_ok_iff.1 taken
    rw [eq_raw_of_subsystemPort port, encode]
  | srspRaw =>
    obtain ⟨b, rfl, taken⟩ := decodeByte_eq_ok_iff.1 decodes
    obtain ⟨e, port, rfl⟩ := map_eq_ok_iff.1 taken
    rw [eq_raw_of_srspPort port, encode]
  | ctFromRaw | ssFromRaw | srspFromRaw =>
    obtain ⟨b, rfl, ⟨⟩⟩ := decodeByte_eq_ok_iff.1 decodes
    rfl
  | encodeHeader =>
    obtain ⟨t, s, id, rfl, rfl⟩ := decodeFields_eq_ok_iff.1 decodes
    rfl
  | frameNew =>
    obtain ⟨length, h, payload, rfl, rfl⟩ := decodeFrame_eq_ok_iff.1 decodes
    rfl
  | pbfGetType | pbfGetSubsys | pbfGetId | viewFirstByte | viewType | viewSubsys | viewCmdId | decodeHeader =>
    simp only [decodeOperands] at decodes
    obtain ⟨w, rfl, ⟨⟩⟩ := decodeWord_eq_ok_iff.1 decodes
    rfl

theorem eq_operationLine_of_decodeOperation {bytes : List Byte} {i : Instr} (decodes : decodeOperation bytes = .ok i) :
    ∃ op operands, (⟨.operation, bytes⟩ : Line) = operationLine op operands ∧ decodeOperands operands op = .ok i := by
  cases bytes with
  | nil => cases decodes
  | cons n operands =>
    by_cases numbered : n.toNat ≤ 15
    · have sameByte : n = (Operation.ofNumber (n.setWidth 4)).number.setWidth 8 := by
        apply BitVec.eq_of_toNat_eq
        rw [BitVec.toNat_setWidth, toNat_number_ofNumber_setWidth numbered]
        omega
      refine ⟨_, operands, ?_, (decodeOperation_of_lt numbered operands).symm.trans decodes⟩
      rw [operationLine, ← sameByte]
    · cases (decodeOperation_of_ge (by omega) operands).symm.trans decodes

theorem wireWord_packHeader_fields (w : HeaderWord) :
    wireWord (packHeader (pbfGetType w) (pbfGetSubsys w) (pbfGetId w)) = wireWord w :=
  congrArg wireWord (encodeHeader_fields w)

theorem decodeSrspRow_cases (b : Byte) :
    (∃ e : SRSPErrorCode, b = e.raw ∧ decodeSrspRow b = srspRow e) ∨
    (5 ≤ b.toNat ∧ decodeSrspRow b = .srspFromRaw b) := by
  by_cases tagged : b.toNat ≤ 4
  · have taken := srspPort_of_le tagged
    exact .inl ⟨_, eq_raw_of_srspPort taken, by rw [decodeSrspRow, taken]⟩
  · have untagged : 5 ≤ b.toNat := by omega
    exact .inr ⟨untagged, by rw [decodeSrspRow, srspPort_of_ge untagged]⟩

/-- Settles O58: in each space a line that decodes is written from the instruction's own operands or fields; only an
SRSP byte without a row is not. -/
theorem encodeUndoesDecode : Obligations.EncodeUndoesDecode := by
  rintro ⟨space, bytes⟩ i decodes
  cases space with
  | operation =>
    obtain ⟨op, operands, line, decodes⟩ := eq_operationLine_of_decodeOperation decodes
    exact .inl ((encode_of_decodeOperands decodes).trans line.symm)
  | headerType =>
    rw [decode_headerType] at decodes
    obtain ⟨w, rfl, ⟨⟩⟩ := decodeWord_eq_ok_iff.1 decodes
    refine .inl ((encode_typeRow ..).trans ?_)
    exact congrArg (Line.mk .headerType) (wireWord_packHeader_fields w)
  | headerSubsystem =>
    rw [decode_headerSubsystem] at decodes
    obtain ⟨w, rfl, ⟨⟩⟩ := decodeWord_eq_ok_iff.1 decodes
    refine .inl ((encode_subsystemRow ..).trans ?_)
    exact congrArg (Line.mk .headerSubsystem) (wireWord_packHeader_fields w)
  | srspErrorCode =>
    obtain ⟨b, rfl, ⟨⟩⟩ := decodeByte_eq_ok_iff.1 decodes
    obtain ⟨e, rfl, row⟩ | ⟨untagged, row⟩ := decodeSrspRow_cases b
    · rw [row]
      exact .inl (encode_srspRow e)
    · exact .inr ⟨b, untagged, rfl, row⟩

/-- The encoder's line of every instruction is selected by its table row. -/
theorem rowOf_selects_encode (i : Instr) : (rowOf i).selects (encode i) = true := by
  cases i with
  | ok | invalidSubsystem | invalidCommandId | invalidParameter | invalidLength => rfl
  | poll id s | syncRequest id s | asyncRequest id s | syncResponse id s | reserved4 id s | reserved5 id s
  | reserved6 id s | reserved7 id s => exact Laws.typeLine_selects _ id s
  | ctRaw | ctFromRaw | ssRaw | ssFromRaw | pbfGetType | pbfGetSubsys | pbfGetId | encodeHeader | viewFirstByte
  | viewType | viewSubsys | viewCmdId | decodeHeader | frameNew | srspRaw | srspFromRaw =>
    exact Laws.operation_selects _ (by decide) _ rfl _
  | _ id t => exact Laws.subsystemLine_selects _ id t

/-- Settles O36: such a line is the one that the encoder writes for its instruction, and that one's row selects it. -/
theorem decodedLineMatchesItsTableRow : Obligations.DecodedLineMatchesItsTableRow := by
  intro l i decodes
  obtain rfl | secondSpelling := encodeUndoesDecode l i decodes
  · exact .inl (rowOf_selects_encode i)
  · exact .inr secondSpelling

/-- Settles O35: whichever table the word is read through, its row's evaluation answers the word's three fields. -/
theorem everyHeaderLineIsDecodedAsDecodeHeader : Obligations.EveryHeaderLineIsDecodedAsDecodeHeader := by
  intro b0 b1 rest s
  constructor <;> intro lined
  · rw [step_of_decode_ok lined rfl, exec_decodeHeader]
    exact exec_typeRow ..
  · rw [step_of_decode_ok lined rfl, exec_decodeHeader]
    exact exec_subsystemRow ..

/-! ## Which lines are rejected (log 5, log 7) -/

theorem decode_ctRaw (b : Byte) : decode ⟨.operation, [0x00, b]⟩ = (typePort b).map .ctRaw := rfl

theorem decode_ssRaw (b : Byte) : decode ⟨.operation, [0x02, b]⟩ = (subsystemPort b).map .ssRaw := rfl

theorem decode_encodeHeader (t s id : Byte) : decode ⟨.operation, [0x07, t, s, id]⟩ = decodeFields [t, s, id] := rfl

theorem decode_srspRaw (b : Byte) : decode ⟨.operation, [0x0E, b]⟩ = (srspPort b).map .srspRaw := rfl

/-- Settles O49: at each typed port the bytes up to the greatest raw value are taken and all others are not. -/
theorem decodeRejectsTagsOutsideTheirPorts : Obligations.DecodeRejectsTagsOutsideTheirPorts := by
  refine ⟨fun n operands => ⟨fun numbered => ?_, fun outside => ?_⟩, fun b => ⟨fun fits => ?_, fun outside => ?_⟩,
    fun b => ⟨fun fits => ?_, fun outside => ?_⟩, fun t s id => ⟨fun fitsType fitsSubsys => ?_, fun outside => ?_⟩,
    fun b => ⟨fun fits => ?_, fun outside => ?_⟩⟩
  · exact ⟨_, toNat_number_ofNumber_setWidth numbered, decodeOperation_of_lt numbered operands⟩
  · exact decodeOperation_of_ge outside operands
  · refine ⟨_, toNat_raw_ofRaw_setWidth_three fits, ?_⟩
    rw [decode_ctRaw, typePort_of_le fits, Except.map]
  · rw [decode_ctRaw, typePort_of_ge outside, Except.map]
  · refine ⟨_, toNat_raw_ofRaw_setWidth_five fits, ?_⟩
    rw [decode_ssRaw, subsystemPort_of_le fits, Except.map]
  · rw [decode_ssRaw, subsystemPort_of_ge outside, Except.map]
  · refine ⟨_, _, toNat_raw_ofRaw_setWidth_three fitsType, toNat_raw_ofRaw_setWidth_five fitsSubsys, ?_⟩
    rw [decode_encodeHeader]
    exact decodeFields_of_ports (typePort_of_le fitsType) (subsystemPort_of_le fitsSubsys)
  · exact (decode_encodeHeader ..).trans (decodeFields_of_ge outside)
  · have taken := srspPort_of_le fits
    refine ⟨_, (eq_raw_of_srspPort taken).symm, ?_⟩
    rw [decode_srspRaw, taken, Except.map]
  · rw [decode_srspRaw, srspPort_of_ge outside, Except.map]

/-- The operations whose input is one byte (R80 to R83, R149, R150). -/
theorem decodeOperands_of_byte {op : Operation}
    (takesByte : op ∈ [Operation.ctRaw, .ctFromRaw, .ssRaw, .ssFromRaw, .srspRaw, .srspFromRaw]) :
    ∃ f : Byte → Except LineDefect Instr, ∀ operands, decodeOperands operands op = decodeByte f operands := by
  fin_cases takesByte <;> exact ⟨_, fun _ => rfl⟩

/-- The operations whose input is one untyped byte (R81, R83, R150). -/
theorem decodeOperands_of_rawByte {op : Operation}
    (takesRawByte : op ∈ [Operation.ctFromRaw, .ssFromRaw, .srspFromRaw]) :
    ∃ g : Byte → Instr, ∀ b, decodeOperands [b] op = .ok (g b) := by
  fin_cases takesRawByte <;> exact ⟨_, fun _ => rfl⟩

/-- The operations whose input is one header word (R103 to R105, R126 to R130). -/
theorem decodeOperands_of_word {op : Operation}
    (takesWord : op ∈ [Operation.pbfGetType, .pbfGetSubsys, .pbfGetId, .viewFirstByte, .viewType, .viewSubsys,
      .viewCmdId, .decodeHeader]) :
    ∃ g : HeaderWord → Instr, ∀ operands, decodeOperands operands op = decodeWord (fun w => .ok (g w)) operands := by
  fin_cases takesWord <;> exact ⟨_, fun _ => rfl⟩

/-- The two header tables read one word each, and every word has a row. -/
theorem decode_of_headerSpace {space : Space} (header : space ∈ [Space.headerType, .headerSubsystem]) :
    ∃ g : HeaderWord → Instr, ∀ bytes, decode ⟨space, bytes⟩ = decodeWord (fun w => .ok (g w)) bytes := by
  fin_cases header <;> exact ⟨_, fun _ => rfl⟩

theorem exists_of_decodeWord_of_length {g : HeaderWord → Instr} {bytes : List Byte} (two : bytes.length = 2) :
    ∃ i, decodeWord (fun w => .ok (g w)) bytes = .ok i := by
  obtain ⟨w, rfl⟩ := exists_wireWord_of_length two
  exact ⟨_, decodeWord_wireWord _ w⟩

/-- Settles O50: the shape of the operands, or of the row's word, decides by its length alone, the typed ports apart. -/
theorem decodeRejectsLinesOfAnotherLength : Obligations.DecodeRejectsLinesOfAnotherLength := by
  refine ⟨rfl, fun op takesByte operands otherLength => ?_, fun op takesWord operands otherLength => ?_,
    fun operands otherLength => ?_, fun operands tooShort => ?_, fun space header bytes otherLength => ?_,
    fun bytes otherLength => ?_, fun op takesRawByte operands one => ?_, fun op takesWord operands two => ?_,
    fun operands enough => ?_, fun space header bytes two => ?_, fun bytes one => ?_⟩
  · obtain ⟨f, shape⟩ := decodeOperands_of_byte takesByte
    rw [decode_operationLine, shape, decodeByte_of_length_ne otherLength]
  · obtain ⟨g, shape⟩ := decodeOperands_of_word takesWord
    rw [decode_operationLine, shape, decodeWord_of_length_ne otherLength]
  · exact (decode_operationLine ..).trans (decodeFields_of_length_ne otherLength)
  · exact (decode_operationLine ..).trans (decodeFrame_of_length_lt tooShort)
  · obtain ⟨g, shape⟩ := decode_of_headerSpace header
    rw [shape, decodeWord_of_length_ne otherLength]
  · rw [decode_srspErrorCode, decodeByte_of_length_ne otherLength]
  · obtain ⟨b, rfl⟩ := List.length_eq_one_iff.1 one
    obtain ⟨g, shape⟩ := decodeOperands_of_rawByte takesRawByte
    exact ⟨g b, (decode_operationLine ..).trans (shape b)⟩
  · obtain ⟨g, shape⟩ := decodeOperands_of_word takesWord
    rw [decode_operationLine, shape]
    exact exists_of_decodeWord_of_length two
  · obtain ⟨length, h, payload, rfl⟩ := exists_frame_operands_of_length enough
    exact ⟨_, (decode_operationLine ..).trans (decodeFrame_cons_wireWord length h payload)⟩
  · obtain ⟨g, shape⟩ := decode_of_headerSpace header
    rw [shape]
    exact exists_of_decodeWord_of_length two
  · obtain ⟨b, rfl⟩ := List.length_eq_one_iff.1 one
    exact ⟨decodeSrspRow b, rfl⟩

/-- Settles O59: each line is the one that the encoder writes for its instruction. -/
theorem writtenOutLinesDecode : Obligations.WrittenOutLinesDecode :=
  ⟨decodeUndoesEncode (.encodeHeader .syncRequest .zdo 0x20), decodeUndoesEncode (.ctFromRaw 0x08),
    decodeUndoesEncode (.decodeHeader 0x2025), decodeUndoesEncode (.syncRequest 0x20 .zdo),
    decodeUndoesEncode (.zdo 0x20 .syncRequest), decodeUndoesEncode .invalidLength⟩

end Sys2Proof
